-- ==== Sys2Proof/Word.lean ====
section
/-! DEFINITION. The words of the Obelune T64's wires and the numberings its manual uses for things. -/

namespace Sys2Proof

/-- One octet of a cell, a frame or a message (chapter 11). -/
abbrev Octet := BitVec 8

/-- An audio sample on a wire: a signed 16-bit two's-complement value (chapter 11, section 3.3 of the overview). -/
abbrev Sample := BitVec 16

/-- A number of two octets, most significant octet first (chapter 11). -/
abbrev Half := BitVec 16

/-- A section, a seat line or a room id: A to D are 0 to 3 (section 3.2 of the overview; 11.6). -/
abbrev SectionId := Fin 4

/-- A seat, 0 to 63: seat n is on line n / 16 at position n mod 16 (section 3.2). -/
abbrev SeatId := Fin 64

/-- A position on a line. -/
abbrev Position := Fin 16

/-- A session profile, 0 to 7 (R36). -/
abbrev ProfileId := Fin 8

/-- A camera, 0 to 7 (R168). -/
abbrev CameraId := Fin 8

/-- A screen, 0 to 7 (R169). -/
abbrev ScreenId := Fin 8

/-- A share input, 0 to 7 (section 2.1). -/
abbrev ShareInput := Fin 8

/-- A stored camera position, 0 to 127. -/
abbrev Preset := Fin 128

/-- A slot of the booking table, 0 to 47 (R127). -/
abbrev SlotId := Fin 48

/-- The octet of a number, taken modulo 256. -/
abbrev octet (n : Nat) : Octet := BitVec.ofNat 8 n

end Sys2Proof
end

