-- ==== Sys2Proof/Config.lean ====
section
/-! DEFINITION. The fixed numbers of the manual, and the values it leaves open. -/

namespace Sys2Proof.Config

/-- Frame periods in one millisecond (R157). -/
abbrev framesPerMs : Nat := 16
/-- Frame periods in one second (section 3.1). -/
abbrev framesPerSecond : Nat := 16000
/-- Minutes in the week (section 3.1, R125). -/
abbrev week : Nat := 10080
/-- Frames in a superframe (section 3.1). -/
abbrev framesPerSuperframe : Nat := 8
/-- Missed turns that lose a seat (R5). -/
abbrev missLimit : Nat := 3
/-- Superframes of an enumeration (R13). -/
abbrev enumerationLength : Nat := 32
/-- Invalid frames in a row that make a line fault (R15). -/
abbrev monitorLimit : Nat := 64
/-- The retry time of a line in FAULT, in frame periods: 1,000 ms (R16). -/
abbrev retryFrames : Nat := 16000
/-- The DENIED time in frame periods: 1,000 ms (R34). -/
abbrev deniedFrames : Nat := 16000
/-- The wake time in frame periods: 2,000 ms (R165). -/
abbrev wakeFrames : Nat := 32000
/-- The reply time of a media directive in frame periods: 2,000 ms (R189). -/
abbrev replyFrames : Nat := 32000
/-- The idle timer's stop value in frame periods: 7,200,000 ms (R157). -/
abbrev idleStop : Nat := 115200000
/-- Superframes from the last accepted WRITE to the apply point (R200). -/
abbrev applySuperframes : Nat := 32
/-- Entries of the posted write queue (R199). -/
abbrev postedLimit : Nat := 8
/-- Entries of the event queue (R202). -/
abbrev eventLimit : Nat := 48
/-- Directives in flight at most (R186). -/
abbrev inFlightLimit : Nat := 4
/-- Frame periods without a valid frame that take the link DOWN (R193). -/
abbrev linkMissLimit : Nat := 160
/-- Valid frames in a row that bring the link UP (R194). -/
abbrev linkUpLimit : Nat := 16
/-- Gate value of a fully open microphone (section 3.3). -/
abbrev gateOpen : Nat := 256
/-- Unity gain (section 3.3). -/
abbrev unity : Nat := 4096
/-- The greatest value of the sixteen-bit counts: speaking seconds, clip counters, admission count. -/
abbrev countStop : Nat := 65535

/-- FREE VALUE: an octet of a reply whose content the manual does not state, one for each use. `State.fresh` numbers the
uses. It has no body, so nothing can be proved about the octet itself (assumption 20). -/
opaque freeOctet : Nat → Octet

end Sys2Proof.Config
end

