-- ==== Sys2Proof/Syntax.lean ====
section
/-! DEFINITION. The commands of the T64: one constructor of `Instr` for each row of spec/opcode_table.json, with the
operands the row's rule gives the event or the request. Request parameters are the raw octets of the request cell
(section 11.3), since the part itself checks their ranges (R203). -/

namespace Sys2Proof

/-- Seat kind named in a HELLO (section 2.3, codes in 11.6). -/
inductive SeatKind where
  | delegateUnit
  | chairUnit
  deriving DecidableEq, Repr

/-- The eight keys of a seat unit (section 2.3); `endSession` is the key END. -/
inductive Key where
  | talk
  | cancel
  | share
  | next
  | priority
  | clear
  | extend
  | endSession
  deriving DecidableEq, Repr

/-- A key goes down (PRESS) or comes up (RELEASE) (section 2.3). -/
inductive KeyAction where
  | press
  | release
  deriving DecidableEq, Repr

/-- The addressee of a media directive: one of 16 targets (section 9.7). -/
inductive Target where
  | camera (c : CameraId)
  | screen (k : ScreenId)
  deriving DecidableEq, Repr

/-- An inbound trunk frame whose marker arrived intact within the capture window (R192, section 11.1). -/
structure TrunkIn where
  /-- program inputs 0 to 3 -/
  channels : Vector Sample 4
  /-- inbound cell octets 2k and 2k + 1 -/
  cell0 : Octet
  cell1 : Octet
  /-- the frame check octet (R208) -/
  check : Octet
  deriving DecidableEq, Repr

/-- A seat-line frame that came back to its line-in pair with its marker intact and in time (R1). -/
structure LineIn where
  /-- the sixteen upstream microphone slots -/
  slots : Vector Sample 16
  /-- the upstream cell octet of the frame -/
  cell : Octet
  deriving DecidableEq, Repr

/-- The booking fields carried by BOOK ADD and BOOK CHANGE, as the octets of the request (section 11.3). -/
structure BookingParams where
  start : Half
  duration : Half
  first : Octet
  last : Octet
  profile : Octet
  recurrence : Octet
  title : Octet
  deriving DecidableEq, Repr

/-- The commands: every row of spec/opcode_table.json, in the table's order. -/
inductive Instr where
  /-- POWER_ON (R206) -/
  | powerOn
  /-- INBOUND_TRUNK_FRAME (R192): the frame that began the frame period, or none when the capture window closed without an
  intact marker -/
  | inboundTrunkFrame (frame : Option TrunkIn)
  /-- LINK_DOWN (R193) -/
  | linkDown
  /-- LINK_UP (R194) -/
  | linkUp
  /-- SUPERFRAME (R3): a superframe boundary -/
  | superframe
  /-- LINE_FRAME_RETURN (R1): the frame as it returned, or none when it returned invalid -/
  | lineFrameReturn (line : SectionId) (frame : Option LineIn)
  /-- LINE_FAULT (R15) -/
  | lineFault (line : SectionId)
  /-- LINE_RETRY (R16) -/
  | lineRetry (line : SectionId)
  /-- ENUMERATION_END (R13) -/
  | enumerationEnd (line : SectionId)
  /-- HELLO (R7, R9) -/
  | hello (seat : SeatId) (kind : SeatKind)
  /-- KEY (R8, R10) -/
  | key (seat : SeatId) (key : Key) (action : KeyAction)
  /-- QUIET (R8, R10) -/
  | quiet (seat : SeatId)
  /-- MISSED_TURN (R5) -/
  | missedTurn (seat : SeatId)
  /-- FRAME_COMPUTATION (R84) -/
  | frameComputation
  /-- SILENCE_CLOSE (R63) -/
  | silenceClose (seat : SeatId)
  /-- LIMIT_WARNING (R62) -/
  | limitWarning (seat : SeatId)
  /-- LIMIT_REACHED (R62) -/
  | limitReached (seat : SeatId)
  /-- DENIED_TIMER_EXPIRY (R34) -/
  | deniedTimerExpiry (seat : SeatId)
  /-- APPLY_TIMER_EXPIRY (R200) -/
  | applyTimerExpiry
  /-- MINUTE_BOUNDARY (R124) -/
  | minuteBoundary
  /-- IDLE_TIMER_EXPIRY (R159) -/
  | idleTimerExpiry
  /-- WAKE_TIMER_EXPIRY (R165) -/
  | wakeTimerExpiry
  /-- DWELL_EXPIRY (R174) -/
  | dwellExpiry (room : SectionId)
  /-- DONE (R188) -/
  | done (target : Target)
  /-- FAIL (R188) -/
  | fail (target : Target)
  /-- REPLY_TIMEOUT (R189) -/
  | replyTimeout (target : Target)
  /-- MEDIA_MESSAGE_DISCARD (R188): the eight octets received -/
  | mediaMessageDiscard (message : Vector Octet 8)
  /-- INBOUND_CELL (R195): the sixteen octets received -/
  | inboundCell (cell : Vector Octet 16)
  /-- BAD_REQUEST (R196): a request cell with an undefined code -/
  | badRequest (tag code : Octet)
  /-- READ (R198) -/
  | read (tag table index field : Octet)
  /-- WRITE (R199) -/
  | write (tag table index field : Octet) (value : Half)
  /-- APPLY (R204) -/
  | apply (tag : Octet)
  /-- CLOCK SET (R126) -/
  | clockSet (tag : Octet) (minute : Half) (second : Octet)
  /-- BOOK ADD (R145) -/
  | bookAdd (tag : Octet) (fields : BookingParams)
  /-- BOOK CHANGE (R146) -/
  | bookChange (tag slot : Octet) (fields : BookingParams)
  /-- BOOK CANCEL (R147) -/
  | bookCancel (tag slot : Octet)
  /-- BOOK EXTEND (R148) -/
  | bookExtend (tag slot : Octet)
  /-- BOOK END (R149) -/
  | bookEnd (tag slot : Octet)
  /-- DIVIDER REPORT (R110): the codes of AB, BC and CD -/
  | dividerReport (tag ab bc cd : Octet)
  /-- REBUILD (R118) -/
  | rebuild
  /-- SEAT OPEN (R78) -/
  | seatOpen (tag seat : Octet)
  /-- SEAT CLOSE (R79) -/
  | seatClose (tag seat : Octet)
  /-- SEAT ENQUEUE (R80) -/
  | seatEnqueue (tag seat : Octet)
  /-- SEAT DEQUEUE (R79) -/
  | seatDequeue (tag seat : Octet)
  /-- FLOOR CLEAR (R81) -/
  | floorClear (tag room : Octet)
  /-- FOLLOW HOLD (R182) -/
  | followHold (tag room : Octet)
  /-- FOLLOW RELEASE (R183) -/
  | followRelease (tag room : Octet)
  /-- FOLLOW RESET (R183) -/
  | followReset (tag room : Octet)
  /-- LINE START (R12) -/
  | lineStart (tag line : Octet)
  /-- LINE STOP (R14) -/
  | lineStop (tag line : Octet)
  /-- WAKE (R162) -/
  | wake (tag : Octet)
  /-- CLEAR CLIPS (R104) -/
  | clearClips (tag : Octet)
  /-- RESET (R205) -/
  | reset (tag : Octet)
  /-- FREE_RUN_FRAME_PERIOD (R192): the inbound frame judged against the free-run frame period, or none -/
  | freeRunFramePeriod (frame : Option TrunkIn)
  deriving DecidableEq, Repr

end Sys2Proof
end

