-- ==== Sys2Proof/Machine/State.lean ====
section
/-! DEFINITION. The state of the T64, block by block (section 2 of the overview), and its value after power-on. -/

namespace Sys2Proof.Machine

open Sys2Proof

/-! ## Line units (chapter 1) -/

/-- Line state (section 1.4). -/
inductive LineState where
  | stopped
  | enumerating
  | running
  | fault
  deriving DecidableEq, Repr

/-- A frame sent into a ring: loudspeaker slots and the downstream cell octet (R1). What its upstream slots and upstream cell octet
hold as it leaves is not stated, and left out (assumption 36). -/
structure LineOut where
  slots : Vector Sample 16
  cell : Octet
  deriving DecidableEq, Repr

/-- One line unit: the state of the table of chapter 1 that is held for the line, its cells and its samples. -/
structure LineUnit where
  state : LineState
  /-- the position whose turn it is, or comes next between turns (R3) -/
  turn : Position
  /-- enumeration count, 0–32 superframes (R13) -/
  enumCount : Nat
  /-- return monitor count, 0–64 frames (R15) -/
  monitor : Nat
  /-- retry timer in frame periods while in FAULT (R16); none: stopped -/
  retry : Option Nat
  /-- poll phase, used under slow poll (R17) -/
  pollPhase : Fin 4
  /-- the superframe in progress is a turn superframe of this line (R3, R17) -/
  turnNow : Bool
  /-- the turn in progress has already been judged (R4) -/
  judged : Bool
  /-- the downstream cell of the superframe in progress (R3) -/
  down : Vector Octet 8
  /-- the upstream octets of the frames of this superframe that returned valid, in order (R3) -/
  up : List Octet
  /-- a frame is on the ring and has not returned (R1) -/
  awaiting : Bool
  /-- the frame sent in the current frame period; none: the out pair is idle (R1) -/
  sent : Option LineOut
  /-- the microphone samples handed to the Mix Engine, by position (R2) -/
  mic : Vector Sample 16
  deriving DecidableEq, Repr

/-! ## Seat Table (chapter 2) -/

/-- Mic state (chapter 4). -/
inductive MicState where
  | off
  | waiting
  | opening
  | on
  | closing
  | suspended
  deriving DecidableEq, Repr

/-- A key event held in a latch (section 1.6). -/
structure KeyEvent where
  key : Key
  action : KeyAction
  deriving DecidableEq, Repr

/-- The runtime state of one seat, with what its line unit and the Room Planner hold for it. -/
structure Seat where
  /-- presence: PRESENT or ABSENT -/
  present : Bool
  kind : SeatKind
  /-- miss count 0–3 (R5) -/
  missCount : Nat
  /-- identify indication (R8) -/
  identify : Bool
  /-- key latch (R19) -/
  latch : Option KeyEvent
  /-- overrun flag (R19) -/
  overrun : Bool
  /-- the Room Planner's latch enable (R109) -/
  latchEnable : Bool
  mic : MicState
  /-- gate value A, 0–256 -/
  gate : Nat
  /-- envelope L, 0–32,767 -/
  env : Nat
  /-- loudspeaker sample of the last frame computation (R101) -/
  loud : Sample
  /-- speaking seconds and its part-second in frames (R61) -/
  speakSecs : Nat
  speakPart : Nat
  /-- silence duration and its part-second in frames (R63) -/
  silence : Nat
  silencePart : Nat
  /-- the limit warning of the seat (R46, R62) -/
  limitWarning : Bool
  /-- the seat has been ON since its admission, so that a warning point of 0 is reached (R62) -/
  beenOn : Bool
  /-- DENIED timer in frame periods; none: stopped (R34) -/
  denied : Option Nat
  deriving DecidableEq, Repr

/-! ## Floor Controller (chapter 4) -/

/-- Floor state (R46). -/
inductive FloorState where
  | inactive
  | normal
  | priority
  | frozen
  deriving DecidableEq, Repr

/-- An entry of an open set (R46, R49). -/
structure OpenEntry where
  seat : SeatId
  /-- admission time -/
  time : Nat
  /-- priority-opened mark -/
  priorityOpened : Bool
  deriving DecidableEq, Repr

/-- A floor record (R46). -/
structure Floor where
  state : FloorState
  slot : Option SlotId
  profile : Option ProfileId
  /-- request queue, head first -/
  queue : List SeatId
  /-- open set, earliest admission first -/
  openSet : List OpenEntry
  /-- priority holders, the one added last at the end -/
  holders : List SeatId
  speaker : Option SeatId
  deriving DecidableEq, Repr

/-! ## Mix Engine (chapter 5) -/

/-- The Mix Engine's own state, apart from the gates and envelopes of the seats. -/
structure Mix where
  /-- clip counters: trunk out channels 0–7, then sections A–D (R102) -/
  clips : Vector Nat 12
  /-- the eight feeds of the last frame computation (R84, R98, R99) -/
  feeds : Vector Sample 8
  /-- the frame computation of the current frame period has been made, or none is due in it (R84, R165) -/
  computed : Bool
  deriving DecidableEq, Repr

/-! ## Room Planner (chapter 6) -/

/-- Divider state. -/
inductive Divider where
  | opened
  | closed
  deriving DecidableEq, Repr

/-- A plan: the states of AB, BC and CD (section 6.1). -/
structure Plan where
  ab : Divider
  bc : Divider
  cd : Divider
  deriving DecidableEq, Repr

/-- Replan state (R109). -/
inductive ReplanState where
  | idle
  | draining
  deriving DecidableEq, Repr

/-- The Room Planner's state (R109), apart from the latch enables held with the seats. -/
structure Planner where
  state : ReplanState
  active : Plan
  target : Option Plan
  affected : Vector Bool 4
  pendingPlan : Option Plan
  deriving DecidableEq, Repr

/-! ## Booking Calendar (chapter 7) -/

/-- Booking state (R127). -/
inductive BookingState where
  | scheduled
  | leadIn
  | pending
  | inSession
  | ending
  | grace
  deriving DecidableEq, Repr

/-- Recurrence of a booking. -/
inductive Recurrence where
  | once
  | weekly
  deriving DecidableEq, Repr

/-- Origin of a booking. -/
inductive Origin where
  | scheduled
  | adHoc
  deriving DecidableEq, Repr

/-- A booking record (R127). -/
structure Booking where
  state : BookingState
  start : Nat
  /-- minutes; 0 for an open-end booking -/
  duration : Nat
  first : SectionId
  last : SectionId
  profile : ProfileId
  recurrence : Recurrence
  origin : Origin
  title : Octet
  /-- extension used -/
  extension : Nat
  deriving DecidableEq, Repr

/-- Room time and the booking table (R124, R127). -/
structure Calendar where
  valid : Bool
  minute : Nat
  second : Nat
  frame : Nat
  slots : Vector (Option Booking) 48
  /-- the sections whose bookings a replan holds (R141) -/
  held : Vector Bool 4
  deriving DecidableEq, Repr

/-! ## Standby Controller (chapter 8) -/

/-- Room state. -/
inductive RoomState where
  | active
  | standby
  | waking
  deriving DecidableEq, Repr

/-- The Standby Controller's state (R157). -/
structure Standby where
  room : RoomState
  /-- idle timer in frame periods, stopping at 7,200,000 ms -/
  idle : Nat
  /-- wake timer in frame periods; none: stopped -/
  wake : Option Nat
  deriving DecidableEq, Repr

/-! ## Screen Director (chapter 9) -/

/-- A source (R169). -/
inductive Source where
  | blank
  | camera (c : CameraId)
  | share (i : ShareInput)
  | farEnd (f : Fin 2)
  | agenda (title : Octet)
  deriving DecidableEq, Repr

/-- A shot: a camera and a preset (section 9.1). -/
structure Shot where
  camera : CameraId
  preset : Preset
  deriving DecidableEq, Repr

/-- A media directive (section 9.7). -/
inductive Directive where
  | recall (c : CameraId) (p : Preset)
  | display (k : ScreenId) (source : Source)
  | power (k : ScreenId) (on : Bool)
  deriving DecidableEq, Repr

/-- The runtime fields of a camera record (R168); the state MOVING is read from the in-flight list. -/
structure Camera where
  preset : Option Preset
  unresponsive : Bool
  deriving DecidableEq, Repr

/-- The runtime fields of a screen record (R169). -/
structure Screen where
  current : Source
  power : Bool
  unresponsive : Bool
  deriving DecidableEq, Repr

/-- State of a follow record (R172). -/
inductive FollowState where
  | following
  | held
  deriving DecidableEq, Repr

/-- An active share: its owner and the share input (R172). -/
structure Share where
  owner : SeatId
  input : ShareInput
  deriving DecidableEq, Repr

/-- A follow record (R172). -/
structure Follow where
  state : FollowState
  candidate : Option SeatId
  shown : Option Shot
  awaited : Option Shot
  /-- dwell deadline: frame periods left; none: no deadline -/
  dwell : Option Nat
  pendingFlag : Bool
  share : Option Share
  deriving DecidableEq, Repr

/-- A directive in flight, with its reply timer in frame periods (R187, R189). -/
structure InFlight where
  directive : Directive
  timer : Nat
  deriving DecidableEq, Repr

/-- The Screen Director's state. -/
structure Video where
  cameras : Vector Camera 8
  screens : Vector Screen 8
  follow : Vector Follow 4
  /-- media queue, oldest first (R186) -/
  queue : List Directive
  /-- in-flight list, oldest first (R187) -/
  inFlight : List InFlight
  /-- messages sent on the media transmit line since the last frame period began, oldest first (R187) -/
  transmitted : List (Vector Octet 8)
  deriving DecidableEq, Repr

/-! ## Configuration tables (sections 2.1, 3.1, 3.4, 5.1, 9.1) -/

/-- Role of a seat. -/
inductive Role where
  | chair
  | delegate
  | listener
  deriving DecidableEq, Repr

/-- Configuration part of a seat record (section 2.1). -/
structure SeatConfig where
  role : Role
  gain : Nat
  volume : Nat
  camera : Option CameraId
  preset : Preset
  share : Option ShareInput
  nameplate : Octet
  deriving DecidableEq, Repr

/-- Floor mode of a profile. -/
inductive FloorMode where
  | openMode
  | request
  | voice
  deriving DecidableEq, Repr

/-- Full policy of a profile. -/
inductive FullPolicy where
  | deny
  | queue
  | replaceOldest
  deriving DecidableEq, Repr

/-- Share permission of a profile. -/
inductive SharePermission where
  | none
  | chair
  | anyone
  deriving DecidableEq, Repr

/-- A session profile (R36). -/
structure Profile where
  mode : FloorMode
  maxOpen : Nat
  queueCap : Nat
  autoAdvance : Bool
  fullPolicy : FullPolicy
  speakLimit : Nat
  limitWarning : Nat
  silenceClose : Nat
  talkThreshold : Nat
  silenceThreshold : Nat
  nom : Bool
  duck : Nat
  dwell : Nat
  sharePermission : SharePermission
  grace : Nat
  endingWarning : Nat
  extensionLimit : Nat
  deriving DecidableEq, Repr

/-- The room settings record (R43). -/
structure RoomSettings where
  standbyLead : Nat
  idleDelay : Nat
  leadIn : Nat
  adHocProfile : Option ProfileId
  adHocDuration : Nat
  lockedHorizon : Nat
  deriving DecidableEq, Repr

/-- A section record (R99, R167). -/
structure SectionConfig where
  feedLevel : Nat
  overviewCamera : Option CameraId
  overviewPreset : Preset
  deriving DecidableEq, Repr

/-- Mode of a screen (R169). -/
inductive ScreenMode where
  | follow
  | shareFollow
  | fixed
  deriving DecidableEq, Repr

/-- Configuration part of a screen record (R169). -/
structure ScreenConfig where
  home : SectionId
  mode : ScreenMode
  fixed : Source
  deriving DecidableEq, Repr

/-- Home of a program input (R95). -/
inductive Home where
  | sec (x : SectionId)
  | all
  | none
  deriving DecidableEq, Repr

/-- A program record (R95). -/
structure Program where
  home : Home
  gain : Nat
  deriving DecidableEq, Repr

/-- All configuration fields (section 3.5 of the overview). -/
structure Tables where
  seats : Vector SeatConfig 64
  profiles : Vector Profile 8
  room : RoomSettings
  sections : Vector SectionConfig 4
  cameraHome : Vector SectionId 8
  screens : Vector ScreenConfig 8
  programs : Vector Program 4
  deriving DecidableEq, Repr

/-! ## Management Unit (chapter 10) -/

/-- A posted write (R200). -/
structure Posted where
  table : Nat
  index : Nat
  field : Nat
  value : Nat
  deriving DecidableEq, Repr

/-- Event kinds (R202). -/
inductive EventKind where
  | seat
  | queue
  | limit
  | presence
  | overrun
  | line
  | booking
  | plan
  | room
  | media
  | clip
  deriving DecidableEq, Repr

/-- An entry of the event queue: kind, subject and the two value octets (R202, section 11.3). -/
structure Event where
  kind : EventKind
  subject : Octet
  value : Octet
  value2 : Octet
  deriving DecidableEq, Repr

/-- Status codes (R197, 11.6). -/
inductive Status where
  | ok
  | clamped
  | busy
  | badRequest
  | badTable
  | badIndex
  | badField
  | badValue
  | readOnly
  | refused
  | full
  | conflict
  | locked
  | asleep
  | noTime
  | notFound
  deriving DecidableEq, Repr

/-- A reply waiting in the reply store (R196). -/
structure Reply where
  tag : Octet
  status : Status
  /-- reply data, octets 2 to 15 of the reply cell -/
  data : Vector Octet 14
  deriving DecidableEq, Repr

/-- The Management Unit's state. -/
structure Mgmt where
  posted : List Posted
  /-- apply timer in superframes; none: stopped (R200) -/
  applyTimer : Option Nat
  /-- the superframe in progress carried the WRITE that started the timer, so its end is not counted (R200) -/
  applyFresh : Bool
  events : List Event
  resync : Bool
  reply : Option Reply
  /-- the outbound cell of the superframe in progress (R195) -/
  outCell : Vector Octet 16
  /-- the inbound cell of the superframe in progress has been handled (R196) -/
  cellTaken : Bool
  deriving DecidableEq, Repr

/-! ## Trunk Interface (chapter 10) -/

/-- Link state (R193, R194). -/
inductive Link where
  | down
  | up
  deriving DecidableEq, Repr

/-- Frame timing source (R192). -/
inductive Timing where
  | freeRun
  | trunk
  deriving DecidableEq, Repr

/-- An outbound trunk frame (R191, section 11.1). -/
structure TrunkOut where
  index : Octet
  channels : Vector Sample 8
  cell0 : Octet
  cell1 : Octet
  check : Octet
  deriving DecidableEq, Repr

/-- The Trunk Interface's state. -/
structure Trunk where
  link : Link
  /-- miss count (R193) -/
  miss : Nat
  /-- up count (R194) -/
  upCount : Nat
  timing : Timing
  /-- frames of the superframe in progress that have begun, 0 to 8: the index of the next frame, 8 when the boundary is due -/
  frameIndex : Nat
  /-- program samples of the frame period (R96, R191) -/
  programs : Vector Sample 4
  /-- the link was UP when the superframe in progress began, and has been since (R195) -/
  upFromStart : Bool
  /-- octets of the inbound cell, from the valid frames of this superframe, in order (R191, R195) -/
  inCell : List Octet
  /-- the outbound frame of the current frame period (R191) -/
  sent : Option TrunkOut
  deriving DecidableEq, Repr

/-! ## The machine -/

/-- The whole part, and the queue of commands waiting. -/
structure State where
  lines : Vector LineUnit 4
  seats : Vector Seat 64
  floors : Vector Floor 4
  /-- admission count, 0–65,535 (R46) -/
  admissions : Nat
  mix : Mix
  planner : Planner
  cal : Calendar
  standby : Standby
  video : Video
  mgmt : Mgmt
  cfg : Tables
  trunk : Trunk
  /-- MODEL FIELD: how many free values have been used (assumption 20) -/
  fresh : Nat
  /-- MODEL FIELD: the commands waiting, first in, first out -/
  pending : List Instr
  deriving DecidableEq, Repr

/-- Reasons the machine stops with a fault: none. The manual gives every command an effect, so no meaning raises one (safe). -/
inductive Fault
  deriving DecidableEq, Repr

/-- Reasons a command is refused by the model. -/
inductive Refusal where
  /-- raised by `exec` for a command that has no meaning yet; no arm raises it in this model (safe: the run stops) -/
  | notModelled (mnemonic : String)
  deriving DecidableEq, Repr

/-- The outcome of a command. -/
abbrev Outcome := Host.Outcome State Fault Refusal

/-! ## Power-on values -/

/-- The seat state cell of position 0 in an enumeration of power-on: lamp READY, notice IDENTIFY (R3, R31, R33). -/
def identifyCell0 : Vector Octet 8 := #v[0x00, 0x01, 0x00, 0x04, 0x00, 0x00, 0x00, 0xFB]

/-- A line unit at power-on (R21): ENUMERATING, in the first superframe of its enumeration. -/
def LineUnit.powerOn : LineUnit where
  state := .enumerating
  turn := 0
  enumCount := 0
  monitor := 0
  retry := none
  pollPhase := 0
  turnNow := true
  judged := false
  down := identifyCell0
  up := []
  awaiting := false
  sent := none
  mic := Vector.replicate 16 0

/-- A seat's runtime state at power-on (R21, R24, R34, R46, R109). -/
def Seat.powerOn : Seat where
  present := false
  kind := .delegateUnit
  missCount := 0
  identify := false
  latch := none
  overrun := false
  latchEnable := false
  mic := .off
  gate := 0
  env := 0
  loud := 0
  speakSecs := 0
  speakPart := 0
  silence := 0
  silencePart := 0
  limitWarning := false
  beenOn := false
  denied := none

/-- A floor record at power-on and after a soft reset (R46). -/
def Floor.idle : Floor where
  state := .inactive
  slot := none
  profile := none
  queue := []
  openSet := []
  holders := []
  speaker := none

/-- The plan with all dividers OPEN (R108). -/
def Plan.allOpen : Plan := ⟨.opened, .opened, .opened⟩

/-- The Room Planner at power-on (R109). -/
def Planner.powerOn : Planner where
  state := .idle
  active := .allOpen
  target := none
  affected := Vector.replicate 4 false
  pendingPlan := none

/-- The Booking Calendar at power-on (R124, R127, R156). -/
def Calendar.powerOn : Calendar where
  valid := false
  minute := 0
  second := 0
  frame := 0
  slots := Vector.replicate 48 none
  held := Vector.replicate 4 false

/-- A follow record in the reset state, FOLLOWING (R172). -/
def Follow.idle : Follow where
  state := .following
  candidate := none
  shown := none
  awaited := none
  dwell := none
  pendingFlag := false
  share := none

/-- The message POWER ON for a screen (section 11.4). -/
def powerOnMessage (k : Nat) : Vector Octet 8 :=
  #v[0x03, octet (8 + k), 0x01, 0, 0, 0, 0, octet (256 * 2 - (3 + 8 + k + 1))]

/-- The Screen Director at power-on: POWER ON queued for all eight screens, of which four have been sent (R190, R187). -/
def Video.powerOn : Video where
  cameras := Vector.replicate 8 ⟨none, false⟩
  screens := Vector.replicate 8 ⟨.blank, false, false⟩
  follow := Vector.replicate 4 Follow.idle
  queue := [.power 4 true, .power 5 true, .power 6 true, .power 7 true]
  inFlight := [⟨.power 0 true, 0⟩, ⟨.power 1 true, 0⟩, ⟨.power 2 true, 0⟩, ⟨.power 3 true, 0⟩]
  transmitted := [powerOnMessage 0, powerOnMessage 1, powerOnMessage 2, powerOnMessage 3]

/-- A seat's configuration at power-on (section 2.1). -/
def SeatConfig.default : SeatConfig where
  role := .delegate
  gain := 4096
  volume := 2048
  camera := none
  preset := 0
  share := none
  nameplate := 0

/-- A profile at power-on (R36). -/
def Profile.default : Profile where
  mode := .request
  maxOpen := 4
  queueCap := 16
  autoAdvance := true
  fullPolicy := .queue
  speakLimit := 0
  limitWarning := 30
  silenceClose := 0
  talkThreshold := 2000
  silenceThreshold := 600
  nom := true
  duck := 1024
  dwell := 3
  sharePermission := .chair
  grace := 5
  endingWarning := 5
  extensionLimit := 60

/-- The room settings at power-on (R43). -/
def RoomSettings.default : RoomSettings where
  standbyLead := 30
  idleDelay := 15
  leadIn := 10
  adHocProfile := some 0
  adHocDuration := 60
  lockedHorizon := 0

/-- The configuration tables at power-on (R22, R36, R43, R83, R95, R99, R167, R168, R169). -/
def Tables.powerOn : Tables where
  seats := Vector.replicate 64 SeatConfig.default
  profiles := Vector.replicate 8 Profile.default
  room := RoomSettings.default
  sections := Vector.replicate 4 ⟨4096, none, 0⟩
  cameraHome := #v[0, 0, 1, 1, 2, 2, 3, 3]
  screens := #v[⟨0, .follow, .blank⟩, ⟨0, .follow, .blank⟩, ⟨1, .follow, .blank⟩, ⟨1, .follow, .blank⟩,
    ⟨2, .follow, .blank⟩, ⟨2, .follow, .blank⟩, ⟨3, .follow, .blank⟩, ⟨3, .follow, .blank⟩]
  programs := Vector.replicate 4 ⟨.none, 4096⟩

/-- The Management Unit at power-on (R206): the RESYNC mark set, and the LINE events of the four lines that enter ENUMERATING
(R11, R21). -/
def Mgmt.powerOn : Mgmt where
  posted := []
  applyTimer := none
  applyFresh := false
  events := [⟨.line, 0, 1, 0⟩, ⟨.line, 1, 1, 0⟩, ⟨.line, 2, 1, 0⟩, ⟨.line, 3, 1, 0⟩]
  resync := true
  reply := none
  outCell := Vector.replicate 16 0
  cellTaken := false

/-- The Trunk Interface at power-on (R194, R206). -/
def Trunk.powerOn : Trunk where
  link := .down
  miss := 0
  upCount := 0
  timing := .freeRun
  frameIndex := 0
  programs := Vector.replicate 4 0
  upFromStart := false
  inCell := []
  sent := none

/-- The part right after power-on: every block at the power-on state its chapter gives, the lines in the first superframe of
their enumeration, and the directives of the power-on reconciliation queued and sent. -/
def State.reset : State where
  lines := Vector.replicate 4 LineUnit.powerOn
  seats := Vector.replicate 64 Seat.powerOn
  floors := Vector.replicate 4 Floor.idle
  admissions := 0
  mix := ⟨Vector.replicate 12 0, Vector.replicate 8 0, true⟩
  planner := Planner.powerOn
  cal := Calendar.powerOn
  standby := ⟨.active, 0, none⟩
  video := Video.powerOn
  mgmt := Mgmt.powerOn
  cfg := Tables.powerOn
  trunk := Trunk.powerOn
  fresh := 0
  pending := []

end Sys2Proof.Machine
end

