-- ==== Sys2Proof/Machine/Codes.lean ====
section
/-! DEFINITION. The code values of section 11.6, in both directions where a code is also received. -/

namespace Sys2Proof.Machine

open Sys2Proof

def statusCode : Status → Nat
  | .ok => 0
  | .clamped => 1
  | .busy => 2
  | .badRequest => 3
  | .badTable => 4
  | .badIndex => 5
  | .badField => 6
  | .badValue => 7
  | .readOnly => 8
  | .refused => 9
  | .full => 10
  | .conflict => 11
  | .locked => 12
  | .asleep => 13
  | .noTime => 14
  | .notFound => 15

def eventKindCode : EventKind → Nat
  | .seat => 1
  | .queue => 2
  | .limit => 3
  | .presence => 4
  | .overrun => 5
  | .line => 6
  | .booking => 7
  | .plan => 8
  | .room => 9
  | .media => 10
  | .clip => 11

def seatKindCode : SeatKind → Nat
  | .delegateUnit => 1
  | .chairUnit => 2

def seatKindOf : Nat → Option SeatKind
  | 1 => some .delegateUnit
  | 2 => some .chairUnit
  | _ => none

def keyOf : Nat → Option Key
  | 1 => some .talk
  | 2 => some .cancel
  | 3 => some .share
  | 4 => some .next
  | 5 => some .priority
  | 6 => some .clear
  | 7 => some .extend
  | 8 => some .endSession
  | _ => none

def keyActionOf : Nat → Option KeyAction
  | 1 => some .press
  | 2 => some .release
  | _ => none

def micCode : MicState → Nat
  | .off => 0
  | .waiting => 1
  | .opening => 2
  | .on => 3
  | .closing => 4
  | .suspended => 5

def lineStateCode : LineState → Nat
  | .stopped => 0
  | .enumerating => 1
  | .running => 2
  | .fault => 3

def dividerOf : Nat → Option Divider
  | 0 => some .opened
  | 1 => some .closed
  | _ => none

def roleCode : Role → Nat
  | .chair => 0
  | .delegate => 1
  | .listener => 2

def roleOf : Nat → Option Role
  | 0 => some .chair
  | 1 => some .delegate
  | 2 => some .listener
  | _ => none

def floorModeCode : FloorMode → Nat
  | .openMode => 0
  | .request => 1
  | .voice => 2

def floorModeOf : Nat → Option FloorMode
  | 0 => some .openMode
  | 1 => some .request
  | 2 => some .voice
  | _ => none

def fullPolicyCode : FullPolicy → Nat
  | .deny => 0
  | .queue => 1
  | .replaceOldest => 2

def fullPolicyOf : Nat → Option FullPolicy
  | 0 => some .deny
  | 1 => some .queue
  | 2 => some .replaceOldest
  | _ => none

def sharePermissionCode : SharePermission → Nat
  | .none => 0
  | .chair => 1
  | .anyone => 2

def sharePermissionOf : Nat → Option SharePermission
  | 0 => some .none
  | 1 => some .chair
  | 2 => some .anyone
  | _ => none

def homeCode : Home → Nat
  | .sec x => x.val
  | .all => 4
  | .none => 5

def homeOf (n : Nat) : Option Home :=
  if h : n < 4 then some (.sec ⟨n, h⟩) else if n = 4 then some .all else if n = 5 then some .none else none

def bookingStateCode : BookingState → Nat
  | .scheduled => 0
  | .leadIn => 1
  | .pending => 2
  | .inSession => 3
  | .ending => 4
  | .grace => 5

def recurrenceOf : Nat → Option Recurrence
  | 0 => some .once
  | 1 => some .weekly
  | _ => none

def roomStateCode : RoomState → Nat
  | .active => 0
  | .standby => 1
  | .waking => 2

def replanStateCode : ReplanState → Nat
  | .idle => 0
  | .draining => 1

def followStateCode : FollowState → Nat
  | .following => 0
  | .held => 1

def screenModeCode : ScreenMode → Nat
  | .follow => 0
  | .shareFollow => 1
  | .fixed => 2

def screenModeOf : Nat → Option ScreenMode
  | 0 => some .follow
  | 1 => some .shareFollow
  | 2 => some .fixed
  | _ => none

def flagCode (b : Bool) : Nat := if b then 1 else 0

def flagOf : Nat → Option Bool
  | 0 => some false
  | 1 => some true
  | _ => none

/-- A source as source kind and number (11.5, 11.6): the kind is the high octet. -/
def sourceCode : Source → Nat
  | .blank => 0
  | .camera c => 256 * 1 + c.val
  | .share i => 256 * 2 + i.val
  | .farEnd f => 256 * 3 + f.val
  | .agenda t => 256 * 4 + t.toNat

/-- A source read from the value of a WRITE (R210): the number is checked against the range of its kind; BLANK has the number
00h. -/
def sourceOf (v : Nat) : Option Source :=
  let number := v % 256
  match v / 256 with
  | 0 => if number = 0 then some .blank else none
  | 1 => if h : number < 8 then some (.camera ⟨number, h⟩) else none
  | 2 => if h : number < 8 then some (.share ⟨number, h⟩) else none
  | 3 => if h : number < 2 then some (.farEnd ⟨number, h⟩) else none
  | 4 => some (.agenda (octet number))
  | _ => none

/-- A plan octet: 4 when AB is CLOSED, plus 2 when BC is CLOSED, plus 1 when CD is CLOSED (section 11.3). -/
def planCode (p : Plan) : Nat :=
  (if p.ab = .closed then 4 else 0) + (if p.bc = .closed then 2 else 0) + (if p.cd = .closed then 1 else 0)

/-- A target code: 00h–07h for cameras, 08h–0Fh for screens (section 11.4). -/
def targetCode : Target → Nat
  | .camera c => c.val
  | .screen k => 8 + k.val

def targetOf (n : Nat) : Option Target :=
  if h : n < 8 then some (.camera ⟨n, h⟩)
  else if h : n - 8 < 8 then some (.screen ⟨n - 8, h⟩)
  else none

/-- A number below `n`, or none: the form of every range check on an index. -/
def finOf (n v : Nat) : Option (Fin n) := if h : v < n then some ⟨v, h⟩ else none

/-- None is FFh in a seat, camera or plan octet (section 11.3), and in the fields that allow none (R210). -/
def optCode {n : Nat} : Option (Fin n) → Nat
  | some x => x.val
  | none => 255

/-- A number below `n`, or FFh for none (R210); the outer `none` marks an undefined value. -/
def optOf (n v : Nat) : Option (Option (Fin n)) :=
  if h : v < n then some (some ⟨v, h⟩) else if v = 255 then some none else none

end Sys2Proof.Machine
end

