-- ==== Sys2Proof/Machine/Ops.lean ====
section
/-! DEFINITION. The named operations over State that every block uses: a change of one record of one block, the event queue
(R202), the walk over seats and rooms, and the geometry of seats, sections and rooms (section 3.2, R108, R113). -/

namespace Sys2Proof.Machine

open Sys2Proof

/-! ## Changing one record -/

def modLine (l : SectionId) (f : LineUnit → LineUnit) (s : State) : State :=
  { s with lines := s.lines.set l (f s.lines[l]) }

def modSeat (i : SeatId) (f : Seat → Seat) (s : State) : State :=
  { s with seats := s.seats.set i (f s.seats[i]) }

def modFloor (r : SectionId) (f : Floor → Floor) (s : State) : State :=
  { s with floors := s.floors.set r (f s.floors[r]) }

def modMix (f : Mix → Mix) (s : State) : State := { s with mix := f s.mix }

def modPlanner (f : Planner → Planner) (s : State) : State := { s with planner := f s.planner }

def modCal (f : Calendar → Calendar) (s : State) : State := { s with cal := f s.cal }

def modSlot (k : SlotId) (b : Option Booking) (s : State) : State :=
  { s with cal := { s.cal with slots := s.cal.slots.set k b } }

def modStandby (f : Standby → Standby) (s : State) : State := { s with standby := f s.standby }

def modVideo (f : Video → Video) (s : State) : State := { s with video := f s.video }

def modCamera (c : CameraId) (f : Camera → Camera) (s : State) : State :=
  modVideo (fun v => { v with cameras := v.cameras.set c (f v.cameras[c]) }) s

def modScreen (k : ScreenId) (f : Screen → Screen) (s : State) : State :=
  modVideo (fun v => { v with screens := v.screens.set k (f v.screens[k]) }) s

def modFollow (r : SectionId) (f : Follow → Follow) (s : State) : State :=
  modVideo (fun v => { v with follow := v.follow.set r (f v.follow[r]) }) s

def modMgmt (f : Mgmt → Mgmt) (s : State) : State := { s with mgmt := f s.mgmt }

def modTrunk (f : Trunk → Trunk) (s : State) : State := { s with trunk := f s.trunk }

/-- Change every seat's runtime record. -/
def modSeats (f : SeatId → Seat → Seat) (s : State) : State :=
  { s with seats := Vector.ofFn fun i : SeatId => f i s.seats[i] }

/-- Do `f x` for each `x` of a list, in the list's order, each handled in full before the next. -/
def forEach {α : Type} (xs : List α) (f : α → State → State) (s : State) : State :=
  xs.foldl (fun t x => f x t) s

abbrev allSeats : List SeatId := List.finRange 64
abbrev allSections : List SectionId := List.finRange 4
abbrev allSlots : List SlotId := List.finRange 48
abbrev allScreens : List ScreenId := List.finRange 8

/-! ## The event queue -/

/-- R202: an event whose key is queued takes its new value in place; otherwise it joins the tail while the queue holds fewer
than 48 entries; otherwise it is dropped and the RESYNC mark is set. -/
def queueEvent (e : Event) (m : Mgmt) : Mgmt :=
  if m.events.any (fun x => x.kind == e.kind && x.subject == e.subject) then
    { m with events := m.events.map fun x => if x.kind == e.kind && x.subject == e.subject then e else x }
  else if m.events.length < Config.eventLimit then { m with events := m.events ++ [e] }
  else { m with resync := true }

/-- A block raises an event with a one-octet value (R202, section 11.3). -/
def raiseEvent (kind : EventKind) (subject value : Nat) (s : State) : State :=
  modMgmt (queueEvent ⟨kind, octet subject, octet value, 0⟩) s

/-! ## Geometry -/

/-- The section, and the line, of a seat: n / 16 (section 3.2). -/
def sectionOf (i : SeatId) : SectionId := ⟨i.val / 16, by omega⟩

/-- The position of a seat on its line: n mod 16 (section 3.2). -/
def positionOf (i : SeatId) : Position := ⟨i.val % 16, by omega⟩

/-- The seat at a position of a line. -/
def seatAt (l : SectionId) (p : Position) : SeatId := ⟨l.val * 16 + p.val, by omega⟩

/-- The seats of a section, in increasing seat number. -/
def seatsOf (x : SectionId) : List SeatId := (List.finRange 16).map (seatAt x)

/-- R108: the room of a section is named by the first section of the run joined by OPEN dividers that contains it. -/
def roomOfSection (p : Plan) (x : SectionId) : SectionId :=
  let b : SectionId := if p.ab = .closed then 1 else 0
  let c : SectionId := if p.bc = .closed then 2 else b
  let d : SectionId := if p.cd = .closed then 3 else c
  if x = 0 then 0 else if x = 1 then b else if x = 2 then c else d

/-- R108: an id is a room of the plan exactly when it names the room of its own section. -/
def isRoom (p : Plan) (r : SectionId) : Bool := roomOfSection p r == r

/-- Section `x` belongs to room `r` of the plan. -/
def inRoom (p : Plan) (r x : SectionId) : Bool := roomOfSection p x == r

/-- The last section of a room. -/
def lastOf (p : Plan) (r : SectionId) : SectionId :=
  allSections.foldl (fun acc x => if inRoom p r x then x else acc) r

/-- The seat's room: the room of the active plan that contains its section (section 3.2, R47). -/
def roomOfSeat (s : State) (i : SeatId) : SectionId := roomOfSection s.planner.active (sectionOf i)

/-- R113: a section is affected when its room, taken as the set of sections it holds, differs between the two plans. -/
def isAffected (p q : Plan) (x : SectionId) : Bool :=
  allSections.any fun y => inRoom p (roomOfSection p x) y != inRoom q (roomOfSection q x) y

/-- The affected sections of a replan (R113). -/
def affectedSections (p q : Plan) : Vector Bool 4 := Vector.ofFn fun x : SectionId => isAffected p q x

/-- The seats of the affected sections, in increasing seat number. -/
def affectedSeats (s : State) : List SeatId := allSeats.filter fun i => s.planner.affected[sectionOf i]

/-! ## Who is there -/

/-- A seat that is PRESENT on a RUNNING line. -/
def isLive (s : State) (i : SeatId) : Bool := s.seats[i].present && s.lines[sectionOf i].state == .running

/-- The line gives turns: it is ENUMERATING or RUNNING (R3, section 1.4). -/
def isPolled (l : LineUnit) : Bool := l.state == .enumerating || l.state == .running

/-- The profile that a floor record holds (R38). -/
def floorProfile (s : State) (r : SectionId) : Option Profile := s.floors[r].profile.map fun p => s.cfg.profiles[p]

/-! ## The mic state and the idle timer -/

/-- The Floor Controller sets a seat's mic state. A change raises a SEAT event (R82), and the idle timer is held at 0 while any
seat has a mic state other than OFF (R158). -/
def setMic (i : SeatId) (m : MicState) (s : State) : State :=
  if s.seats[i].mic = m then s
  else
    let s := modSeat i (fun x => { x with mic := m }) s
    let s := if m = .off then s else modStandby (fun b => { b with idle := 0 }) s
    raiseEvent .seat i.val (micCode m) s

/-- R34: a request of the seat was refused with DENIED; the timer starts from 0, again if it was running. -/
def startDenied (i : SeatId) (s : State) : State := modSeat i (fun x => { x with denied := some 0 }) s

/-- Seat activity, or a session end, sets the idle timer to 0 (R30, R158). -/
def restartIdle (s : State) : State := modStandby (fun b => { b with idle := 0 }) s

/-- The next free value is used (assumption 20). -/
def takeFresh (s : State) : State := { s with fresh := s.fresh + 1 }

end Sys2Proof.Machine
end

