-- ==== Sys2Proof/Machine/Flags.lean ====
section
/-! DEFINITION. The values the manual derives from the state: latch modes, queue positions, notices, lamps, the calendar's
intervals and orders, and the conditions other blocks read. -/

namespace Sys2Proof.Machine

open Sys2Proof

/-! ## Latch mode -/

/-- Latch mode of a seat (R18). -/
inductive LatchMode where
  | all
  | talkOnly
  | off
  deriving DecidableEq, Repr

/-- R18: the latch mode from the Room Planner's request and the room state. -/
def latchModeOf (enable : Bool) (room : RoomState) : LatchMode :=
  if enable then .all
  else match room with
    | .waking => .all
    | .standby => .talkOnly
    | .active => .off

def latchMode (s : State) (i : SeatId) : LatchMode := latchModeOf s.seats[i].latchEnable s.standby.room

/-! ## Room time -/

/-- R125: the distance from minute a forward to minute b. -/
def distance (a b : Nat) : Nat := (b + Config.week - a) % Config.week

/-- R125: an interval of room time contains a minute. -/
def spanContains (start length m : Nat) : Bool := distance start m < length

/-- An interval: every minute, for an open-end booking, or a start and a length (R125, R127). -/
inductive Interval where
  | always
  | span (start length : Nat)
  deriving DecidableEq, Repr

def Interval.has : Interval → Nat → Bool
  | .always, _ => true
  | .span a d, m => spanContains a d m

/-- R125: two intervals intersect when either contains the start of the other and both have a length above 0; the interval of
an open-end booking intersects every interval that contains a minute. -/
def Interval.meets : Interval → Interval → Bool
  | .always, .always => true
  | .always, .span _ d => 0 < d
  | .span _ d, .always => 0 < d
  | .span a d, .span b e => 0 < d && 0 < e && (spanContains a d b || spanContains b e a)

/-- A minute so many minutes before another. -/
def minutesBefore (m k : Nat) : Nat := (m + Config.week - k) % Config.week

/-! ## Bookings -/

/-- A session state: IN_SESSION, ENDING or GRACE (section 3.4 of the overview). -/
def isSession : BookingState → Bool
  | .inSession => true
  | .ending => true
  | .grace => true
  | _ => false

/-- R127: a booking with duration 0 is open-end. -/
def isOpenEnd (b : Booking) : Bool := b.duration == 0

/-- R127: the end of a booking. -/
def endOf (b : Booking) : Nat := (b.start + b.duration + b.extension) % Config.week

/-- R128: the interval of a booking. -/
def intervalOf (b : Booking) : Interval :=
  if isOpenEnd b then .always else .span b.start (b.duration + b.extension)

/-- The profile named by a booking (R38, R42). -/
def bookingProfile (s : State) (b : Booking) : Profile := s.cfg.profiles[b.profile]

/-- R128: the lead-in window contains a minute. -/
def leadInHas (s : State) (b : Booking) (now : Nat) : Bool :=
  !isOpenEnd b && spanContains (minutesBefore b.start s.cfg.room.leadIn) s.cfg.room.leadIn now

/-- R128: the ending window contains a minute. -/
def endingHas (s : State) (b : Booking) (now : Nat) : Bool :=
  let w := (bookingProfile s b).endingWarning
  !isOpenEnd b && spanContains (minutesBefore (endOf b) w) w now

/-- The range of a booking holds a section. -/
def rangeHas (b : Booking) (x : SectionId) : Bool := b.first ≤ x && x ≤ b.last

/-- Two ranges have a section in common (R129). -/
def rangesMeet (first last first' last' : SectionId) : Bool := first ≤ last' && first' ≤ last

/-- R130: the booking nearest after minute `m`, by the distance to its start and then by slot number, among those wanted. -/
def firstAfter (s : State) (m : Nat) (want : SlotId → Booking → Bool) : Option (SlotId × Booking) :=
  allSlots.foldl (fun best k =>
    match s.cal.slots[k] with
    | none => best
    | some b =>
      if want k b then
        match best with
        | none => some (k, b)
        | some (_, c) => if distance m b.start < distance m c.start then some (k, b) else best
      else best) none

/-- R130: the first conflicting booking after a minute on a range, other than the booking under test. -/
def firstConflictAfter (s : State) (m : Nat) (first last : SectionId) (self : Option SlotId) : Option (SlotId × Booking) :=
  firstAfter s m fun k b => self != some k && rangesMeet first last b.first b.last

/-- R128: the length of the grace window of a booking in a slot: the profile's grace, cut at the first conflicting start. -/
def graceLength (s : State) (k : SlotId) (b : Booking) : Nat :=
  let g := (bookingProfile s b).grace
  match firstConflictAfter s (endOf b) b.first b.last (some k) with
  | none => g
  | some (_, c) => min g (distance (endOf b) c.start)

/-- R128: the grace window contains a minute. -/
def graceHas (s : State) (k : SlotId) (b : Booking) (now : Nat) : Bool :=
  !isOpenEnd b && spanContains (endOf b) (graceLength s k b) now

/-- R129: the occupied time of the booking in a slot. -/
def occupied (s : State) (k : SlotId) (b : Booking) : List Interval :=
  if b.state = .grace then [intervalOf b, .span (endOf b) (graceLength s k b)] else [intervalOf b]

/-- R129: the interval of a booking on a range conflicts with some booking of the table other than its own record. -/
def conflicts (s : State) (first last : SectionId) (i : Interval) (self : Option SlotId) : Bool :=
  allSlots.any fun k =>
    match s.cal.slots[k] with
    | none => false
    | some b => self != some k && rangesMeet first last b.first b.last && (occupied s k b).any fun j => i.meets j

/-- R131: a booking is locked by its state, or by the locked horizon of the room settings. -/
def isLocked (s : State) (b : Booking) : Bool :=
  b.state == .pending || isSession b.state ||
    (s.cal.valid && distance s.cal.minute b.start < s.cfg.room.lockedHorizon)

/-- R130: a booking touches a room of the plan when its range holds a section of it. -/
def touchesRoom (p : Plan) (b : Booking) (r : SectionId) : Bool :=
  allSections.any fun x => rangeHas b x && inRoom p r x

/-- R141: a replan holds a booking whose range touches a section handed to the calendar. -/
def isHeld (s : State) (b : Booking) : Bool := allSections.any fun x => rangeHas b x && s.cal.held[x]

/-- R135: the range of a booking is exactly a room of the active plan. -/
def rangeIsRoom (p : Plan) (b : Booking) : Bool :=
  b.first ≤ b.last && allSections.all fun x => rangeHas b x == inRoom p b.first x

/-- Some booking that touches a room is in a state wanted. -/
def anyTouching (s : State) (r : SectionId) (want : BookingState → Bool) : Bool :=
  allSlots.any fun k =>
    match s.cal.slots[k] with
    | none => false
    | some b => want b.state && touchesRoom s.planner.active b r

/-- A room in session (section 3.4 of the overview). -/
def roomInSession (s : State) (r : SectionId) : Bool := anyTouching s r isSession

/-- A room with a booking in PENDING. -/
def roomPending (s : State) (r : SectionId) : Bool := anyTouching s r (· == .pending)

/-- The slot of the booking in a session state whose range is a room (R150). -/
def sessionSlot (s : State) (r : SectionId) : Option SlotId :=
  allSlots.find? fun k =>
    match s.cal.slots[k] with
    | none => false
    | some b => isSession b.state && b.first == r && rangeIsRoom s.planner.active b

/-! ## Floors and seats -/

/-- R32: 0 for a seat not in the queue, else its place in it, the head being 1. -/
def queuePosition (s : State) (i : SeatId) : Nat :=
  let q := s.floors[roomOfSeat s i].queue
  if s.seats[i].mic = .waiting ∧ i ∈ q then q.idxOf i + 1 else 0

/-- R49: the admitted count of a room: the seats of its open set whose role is not CHAIR. -/
def admittedCount (s : State) (r : SectionId) : Nat :=
  (s.floors[r].openSet.filter fun e => s.cfg.seats[e.seat].role != .chair).length

/-- R69: the floor speaker as it stands. -/
def computeSpeaker (s : State) (r : SectionId) : Option SeatId :=
  match s.floors[r].state with
  | .priority => s.floors[r].holders.getLast?
  | .normal =>
    ((s.floors[r].openSet.filter fun e => s.seats[e.seat].mic == .opening || s.seats[e.seat].mic == .on).map (·.seat)).getLast?
  | _ => none

/-- Notice (R24). -/
inductive Notice where
  | none
  | denied
  | limitWarn
  | sessionEnding
  | identify
  deriving DecidableEq, Repr

def noticeCode : Notice → Nat
  | .none => 0
  | .denied => 1
  | .limitWarn => 2
  | .sessionEnding => 3
  | .identify => 4

/-- R33: the notice of a seat, the value a seat state cell assembled now would carry. -/
def noticeOf (s : State) (i : SeatId) : Notice :=
  if s.lines[sectionOf i].state = .enumerating ∨ s.seats[i].identify then .identify
  else if s.seats[i].denied.isSome then .denied
  else if s.seats[i].limitWarning then .limitWarn
  else if anyTouching s (roomOfSeat s i) (fun x => x == .ending || x == .grace) then .sessionEnding
  else .none

/-- Mic lamp (R31). -/
inductive Lamp where
  | dark
  | ready
  | blink
  | lit
  | flash
  deriving DecidableEq, Repr

def lampCode : Lamp → Nat
  | .dark => 0
  | .ready => 1
  | .blink => 2
  | .lit => 3
  | .flash => 4

/-- R31: the mic lamp of a seat. -/
def lampOf (s : State) (i : SeatId) : Lamp :=
  if s.standby.room = .standby then .dark
  else if s.cfg.seats[i].role = .listener then .dark
  else match s.seats[i].mic with
    | .off => .ready
    | .closing => .ready
    | .waiting => .blink
    | .opening => .lit
    | .on => .lit
    | .suspended => .flash

/-- R32: the nameplate shown in a room: that of its floor speaker, or 0. -/
def nameplateOf (s : State) (r : SectionId) : Octet :=
  match s.floors[r].speaker with
  | none => 0
  | some i => s.cfg.seats[i].nameplate

/-- R63: the silence close time of a profile; 0 for no silence close. -/
def silenceTime (p : Profile) : Nat :=
  if p.silenceClose ≠ 0 then p.silenceClose else if p.mode = .voice then 2 else 0

/-- R39, R62: a profile gives a warning. -/
def warns (p : Profile) : Bool := p.speakLimit != 0 && p.limitWarning != 0

/-- R39, R62: the warning point. -/
def warningPoint (p : Profile) : Nat := p.speakLimit - p.limitWarning

end Sys2Proof.Machine
end

