-- ==== Sys2Proof/Machine/Formats.lean ====
section
/-! DEFINITION. The octet layouts of chapter 11 that the part sends: check octets, seat state cells, trunk frames and cells,
and media messages. -/

namespace Sys2Proof.Machine

open Sys2Proof

/-- R208: the check octet of the octets before it: the negation, modulo 256, of their sum. -/
def checkOctet (xs : List Octet) : Octet := -(xs.foldl (· + ·) 0)

/-- R208: the octets of a cell or message, check octet included, sum to 0 modulo 256. -/
def checkHolds (xs : List Octet) : Bool := xs.foldl (· + ·) 0 == 0

/-- The octets of a list, padded with 00h to a length (unused octets are sent as 00h, R208). -/
def padded (n : Nat) (xs : List Octet) : Vector Octet n := Vector.ofFn fun i : Fin n => xs.getD i.val 0

/-- Seven octets and their check octet. -/
def withCheck (xs : List Octet) : Vector Octet 8 :=
  let body := (padded 7 xs).toList
  padded 8 (body ++ [checkOctet body])

/-- The high octet of a sixteen-bit word. -/
def highOctet (w : BitVec 16) : Octet := w.extractLsb' 8 8

/-- The low octet of a sixteen-bit word. -/
def lowOctet (w : BitVec 16) : Octet := w.extractLsb' 0 8

/-- A number in two octets, most significant first. -/
def twoOctets (n : Nat) : List Octet := [octet (n / 256), octet n]

/-- Section 11.2: the seat state cell of a position, with IDENTIFY as its notice when the line unit asks for it. -/
def seatCell (s : State) (i : SeatId) : Vector Octet 8 :=
  withCheck [octet (positionOf i).val, octet (lampCode (lampOf s i)), octet (queuePosition s i),
    octet (noticeCode (noticeOf s i)), nameplateOf s (roomOfSeat s i)]

/-- Section 11.2: the cell that names no position. -/
def noPositionCell : Vector Octet 8 := withCheck [0xFF]

/-- Section 11.3: the EMPTY cell. -/
def emptyCell : Vector Octet 16 := Vector.replicate 16 0

/-- Section 11.3: a reply cell. -/
def replyCell (r : Reply) : Vector Octet 16 :=
  padded 16 ([octet (32 + statusCode r.status), r.tag] ++ r.data.toList)

/-- Section 11.3: an event cell, with the RESYNC mark and an event or none. With no event, the octets of subject and value are 00h
(assumption 39). -/
def eventCell (resync : Bool) (e : Option Event) : Vector Octet 16 :=
  let head := octet (48 + flagCode resync)
  match e with
  | none => padded 16 [head]
  | some e => padded 16 [head, octet (eventKindCode e.kind), e.subject, e.value, e.value2]

/-- Section 11.1: the outbound trunk frame of an index, with its frame check (R208). -/
def trunkFrame (index : Nat) (feeds : Vector Sample 8) (cell : Vector Octet 16) : TrunkOut :=
  let c0 := cell.toList.getD (2 * index) 0
  let c1 := cell.toList.getD (2 * index + 1) 0
  let audio := feeds.toList.flatMap fun w => [highOctet w, lowOctet w]
  ⟨octet index, feeds, c0, c1, checkOctet ([octet index] ++ audio ++ [c0, c1])⟩

/-- R192, R208: the frame check of an inbound trunk frame is correct. -/
def trunkInValid (f : TrunkIn) : Bool :=
  checkHolds ((f.channels.toList.flatMap fun w => [highOctet w, lowOctet w]) ++ [f.cell0, f.cell1, f.check])

/-- The target of a directive (section 9.7). -/
def targetOfDirective : Directive → Target
  | .recall c _ => .camera c
  | .display k _ => .screen k
  | .power k _ => .screen k

/-- Section 11.4: the message of a directive. -/
def directiveMessage (d : Directive) : Vector Octet 8 :=
  let t := octet (targetCode (targetOfDirective d))
  match d with
  | .recall _ p => withCheck [0x01, t, octet p.val]
  | .display _ x => withCheck [0x02, t, octet (sourceCode x / 256), octet (sourceCode x)]
  | .power _ on => withCheck [0x03, t, octet (flagCode on)]

end Sys2Proof.Machine
end

