-- ==== Sys2Proof/Machine/Screens.lean ====
section
/-! DEFINITION. The Screen Director (chapter 9): the media queue and the in-flight list, what each screen should show, and
the follow of the speaker. -/

namespace Sys2Proof.Machine

open Sys2Proof

/-! ## The media queue (R186, R187) -/

/-- The directive in flight for a target. -/
def flightFor (v : Video) (t : Target) : Option InFlight :=
  v.inFlight.find? fun x => targetOfDirective x.directive == t

/-- The first directive of a list whose target has nothing in flight, and the list without it. -/
def takeSendable (v : Video) : List Directive → Option (Directive × List Directive)
  | [] => none
  | d :: rest =>
    if (flightFor v (targetOfDirective d)).isNone then some (d, rest)
    else (takeSendable v rest).map fun (x, r) => (x, d :: r)

/-- R187: send the oldest directive whose target has nothing in flight, while fewer than 4 are in flight. -/
def sendOne (v : Video) : Video :=
  if v.inFlight.length < Config.inFlightLimit then
    match takeSendable v v.queue with
    | none => v
    | some (d, rest) =>
      { v with
        queue := rest
        inFlight := v.inFlight ++ [⟨d, 0⟩]
        transmitted := v.transmitted ++ [directiveMessage d] }
  else v

/-- R187: directives are sent one after another while the test holds; at most 4 can be sent. -/
def sendAll (v : Video) : Video := sendOne (sendOne (sendOne (sendOne v)))

/-- R186: what becomes of a new directive in the queue. -/
def joinQueue (d : Directive) (v : Video) : Video :=
  if (flightFor v (targetOfDirective d)).any (fun x => x.directive == d) then v
  else if v.queue.any (fun x => targetOfDirective x == targetOfDirective d) then
    { v with queue := v.queue.map fun x => if targetOfDirective x == targetOfDirective d then d else x }
  else { v with queue := v.queue ++ [d] }

/-- A directive is queued, and the queue is tested (R186, R187). -/
def enqueue (d : Directive) (s : State) : State := modVideo (fun v => sendAll (joinQueue d v)) s

/-- Remove the queued directives of a kind. -/
def unqueue (drop : Directive → Bool) (s : State) : State :=
  modVideo (fun v => { v with queue := v.queue.filter fun d => !drop d }) s

def isRecallFor (c : CameraId) : Directive → Bool
  | .recall c' _ => c' == c
  | _ => false

/-- Remove an unsent RECALL for a camera. -/
def unqueueRecall (c : CameraId) (s : State) : State := unqueue (isRecallFor c) s

/-- R168: the camera is MOVING while a RECALL for it is in flight. -/
def cameraMoving (s : State) (c : CameraId) : Bool := s.video.inFlight.any fun x => isRecallFor c x.directive

/-- R168: the camera is ready at a preset. -/
def cameraReady (s : State) (c : CameraId) (p : Preset) : Bool :=
  !cameraMoving s c && s.video.cameras[c].preset == some p

/-! ## What a screen should show (R170) -/

/-- The room of the active plan that holds a screen's home section. -/
def roomOfScreen (s : State) (k : ScreenId) : SectionId := roomOfSection s.planner.active s.cfg.screens[k].home

/-- The room of the active plan that holds a camera's home section. -/
def roomOfCamera (s : State) (c : CameraId) : SectionId := roomOfSection s.planner.active s.cfg.cameraHome[c]

/-- R170: the wanted power. -/
def wantedPower (s : State) : Bool := s.standby.room != .standby

/-- R170: the follow source of a room. -/
def followSource (s : State) (r : SectionId) : Source :=
  match s.video.follow[r].shown with
  | some shot => .camera shot.camera
  | none => .blank

/-- R170: AGENDA with the title of the booking that touches the room in PENDING with the lowest slot number, else of the first
booking in calendar order that touches it in LEAD_IN; BLANK when there is neither. -/
def agendaSource (s : State) (r : SectionId) : Source :=
  let touching := fun (st : BookingState) (b : Booking) => b.state == st && touchesRoom s.planner.active b r
  let pendingOne := allSlots.findSome? fun k => s.cal.slots[k].filter (touching .pending)
  match pendingOne with
  | some b => .agenda b.title
  | none =>
    match firstAfter s s.cal.minute fun _ b => touching .leadIn b with
    | some (_, b) => .agenda b.title
    | none => .blank

/-- R170: the target of a screen. -/
def targetSource (s : State) (k : ScreenId) : Source :=
  let r := roomOfScreen s k
  match s.cfg.screens[k].mode with
  | .fixed => s.cfg.screens[k].fixed
  | .follow => if roomInSession s r then followSource s r else agendaSource s r
  | .shareFollow =>
    if roomInSession s r then
      match s.video.follow[r].share with
      | some sh => .share sh.input
      | none => followSource s r
    else agendaSource s r

/-! ## Reconciling (R171) -/

def isShowFor (k : ScreenId) : Directive → Bool
  | .display k' _ => k' == k
  | _ => false

def isPowerFor (k : ScreenId) : Directive → Bool
  | .power k' _ => k' == k
  | _ => false

/-- R171: a POWER for the screen is queued and unsent. -/
def powerQueued (k : ScreenId) (v : Video) : Bool := v.queue.any (isPowerFor k)

/-- R171: the first row of its table that applies. A POWER that is queued for the screen stays and is sent, so row 3 queues no SHOW in
its place; the reconciliation at its DONE comes back to the target (assumption 34). -/
def reconcile (k : ScreenId) (s : State) : State :=
  let screen := s.video.screens[k]
  let target := targetSource s k
  let showTarget : Directive := .display k target
  let waiting := s.video.queue ++ s.video.inFlight.map (·.directive)
  if wantedPower s ≠ screen.power then enqueue (.power k (wantedPower s)) s
  else if screen.power = false then s
  else if target ≠ screen.current ∧ showTarget ∉ waiting ∧ powerQueued k s.video = false then enqueue showTarget s
  else if target = screen.current then unqueue (fun d => isShowFor k d && d != showTarget) s
  else s

/-- Every screen is reconciled. -/
def reconcileAll (s : State) : State := forEach allScreens reconcile s

/-- The screens of a room are reconciled. -/
def reconcileRoom (r : SectionId) (s : State) : State :=
  forEach allScreens (fun k t => if roomOfScreen s k = r then reconcile k t else t) s

/-! ## Shots (R175, R176) -/

/-- R167: the overview shot of a room. -/
def overviewShot (s : State) (r : SectionId) : Option Shot :=
  match s.cfg.sections[r].overviewCamera with
  | none => none
  | some c => if roomOfCamera s c = r then some ⟨c, s.cfg.sections[r].overviewPreset⟩ else none

/-- The awaited shot is dropped, with an unsent RECALL for its camera (R175, R182, R183). -/
def dropAwaited (r : SectionId) (s : State) : State :=
  match s.video.follow[r].awaited with
  | none => s
  | some shot => modFollow r (fun f => { f with awaited := none }) (unqueueRecall shot.camera s)

/-- R176, R174: the dwell deadline is started from the profile's follow dwell; a dwell of 0 starts none. -/
def startDwell (r : SectionId) (s : State) : State :=
  match floorProfile s r with
  | none => s
  | some p =>
    if p.dwell = 0 then s
    else modFollow r (fun f => { f with dwell := some (p.dwell * Config.framesPerSecond) }) s

/-- R176: put up a shot in a room. -/
def putUp (r : SectionId) (shot : Shot) (s : State) : State :=
  if cameraReady s shot.camera shot.preset then
    let s := modFollow r (fun f => { f with shown := some shot }) s
    let s := unqueueRecall shot.camera s
    reconcileRoom r (startDwell r s)
  else
    modFollow r (fun f => { f with awaited := some shot }) (enqueue (.recall shot.camera shot.preset) s)

/-- R175: act on the overview shot alone. -/
def actOverview (r : SectionId) (s : State) : State :=
  let s := dropAwaited r s
  match overviewShot s r with
  | none => s
  | some shot => putUp r shot s

/-- R175: the shot that the candidate's own camera gives, when that camera's home section lies in the room. -/
def candidateShot (s : State) (r : SectionId) : Option Shot :=
  match s.video.follow[r].candidate with
  | none => none
  | some i =>
    match s.cfg.seats[i].camera with
    | none => none
    | some c => if roomOfCamera s c = r then some ⟨c, s.cfg.seats[i].preset⟩ else none

/-- R175: act on the candidate of a room's follow record. -/
def actCandidate (r : SectionId) (s : State) : State :=
  match candidateShot s r with
  | some shot => putUp r shot (dropAwaited r s)
  | none => actOverview r s

/-- R173: a candidate change. -/
def candidateChange (r : SectionId) (c : Option SeatId) (s : State) : State :=
  let s := modFollow r (fun f => { f with candidate := c }) s
  if s.video.follow[r].state = .held then s
  else if !roomInSession s r then s
  else if s.video.follow[r].dwell.isSome then modFollow r (fun f => { f with pendingFlag := true }) s
  else actCandidate r s

/-- R172: a follow record is reset; its state FOLLOWING or HELD is kept. -/
def resetFollow (r : SectionId) (s : State) : State :=
  let s := dropAwaited r s
  modFollow r (fun f => { f with
    candidate := s.floors[r].speaker, shown := none, awaited := none, dwell := none, pendingFlag := false, share := none }) s

/-- R179: a session start resets the follow record and, when it is FOLLOWING, acts on the candidate. -/
def followSessionStart (r : SectionId) (s : State) : State :=
  let s := resetFollow r s
  if s.video.follow[r].state = .following then actCandidate r s else s

/-- R174: the dwell deadline has reached 0. -/
def dwellOver (r : SectionId) (s : State) : State :=
  let s := modFollow r (fun f => { f with dwell := none }) s
  if s.video.follow[r].pendingFlag ∧ s.video.follow[r].state = .following then
    actCandidate r (modFollow r (fun f => { f with pendingFlag := false }) s)
  else s

/-! ## Shares (R180, R181) -/

/-- The active share of a room changes, and its screens are reconciled. -/
def setShare (r : SectionId) (sh : Option Share) (s : State) : State :=
  reconcileRoom r (modFollow r (fun f => { f with share := sh }) s)

/-- R181: every share that a seat owns ends. -/
def endShareOf (i : SeatId) (s : State) : State :=
  forEach allSections (fun r t => if t.video.follow[r].share.any (·.owner == i) then setShare r none t else t) s

/-- R180: a SHARE PRESS, by the first row of its table that applies. -/
def sharePress (i : SeatId) (s : State) : State :=
  let r := roomOfSeat s i
  if s.video.follow[r].share.any (·.owner == i) then setShare r none s
  else if !roomInSession s r then startDenied i s
  else match floorProfile s r with
    | none => startDenied i s
    | some p =>
      if p.sharePermission = .none then startDenied i s
      else if p.sharePermission = .chair ∧ s.cfg.seats[i].role ≠ .chair then startDenied i s
      else match s.cfg.seats[i].share with
        | none => startDenied i s
        | some x => setShare r (some ⟨i, x⟩) s

/-! ## Replies (R177, R178, R188, R189) -/

/-- The directive in flight for a target leaves the in-flight list. -/
def landed (t : Target) (s : State) : State :=
  modVideo (fun v => { v with inFlight := v.inFlight.filter fun x => targetOfDirective x.directive != t }) s

/-- R187: the freed place is offered to the queue. -/
def offerPlace (s : State) : State := modVideo sendAll s

/-- R177: after a DONE of RECALL (c, q), the awaited shot is completed when it is that shot. -/
def recallDone (c : CameraId) (q : Preset) (s : State) : State :=
  let r := roomOfCamera s c
  if s.video.follow[r].state = .following ∧ s.video.follow[r].awaited = some ⟨c, q⟩ then
    putUp r ⟨c, q⟩ (modFollow r (fun f => { f with awaited := none }) s)
  else s

/-- R178: after a failed RECALL (c, q) that was awaited, the follow falls back to the overview shot. -/
def recallFailed (c : CameraId) (q : Preset) (s : State) : State :=
  let r := roomOfCamera s c
  if s.video.follow[r].state = .following ∧ s.video.follow[r].awaited = some ⟨c, q⟩ then
    match overviewShot s r with
    | none => modFollow r (fun f => { f with awaited := none }) s
    | some o =>
      if o = ⟨c, q⟩ then modFollow r (fun f => { f with awaited := none }) s
      else actOverview r s
  else s

/-- R188: the runtime record of the target of a directive answered DONE. -/
def doneUpdate (d : Directive) (s : State) : State :=
  match d with
  | .recall c q => modCamera c (fun x => { x with preset := some q, unresponsive := false }) s
  | .display k x => modScreen k (fun y => { y with current := x, unresponsive := false }) s
  | .power k true => modScreen k (fun y => { y with power := true, unresponsive := false }) s
  | .power k false => modScreen k (fun y => { y with power := false, current := .blank, unresponsive := false }) s

/-- R188: what follows a DONE. -/
def doneFollows (d : Directive) (s : State) : State :=
  match d with
  | .recall c q => recallDone c q s
  | .display k _ => reconcile k s
  | .power k _ => reconcile k s

/-- R188: a DONE for a target; ignored with nothing in flight for it. -/
def mediaDone (t : Target) (s : State) : State :=
  match flightFor s.video t with
  | none => s
  | some x => offerPlace (doneFollows x.directive (doneUpdate x.directive (landed t s)))

/-- R178: what follows the failure of a directive. -/
def failFollows (d : Directive) (s : State) : State :=
  match d with
  | .recall c q => recallFailed c q s
  | _ => s

/-- R188: a FAIL for a target; ignored with nothing in flight for it. MEDIA value FAIL is 1. -/
def mediaFail (t : Target) (s : State) : State :=
  match flightFor s.video t with
  | none => s
  | some x => offerPlace (failFollows x.directive (raiseEvent .media (targetCode t) 1 (landed t s)))

/-- R189: the target's unresponsive flag is set. -/
def markUnresponsive (t : Target) (s : State) : State :=
  match t with
  | .camera c => modCamera c (fun x => { x with unresponsive := true }) s
  | .screen k => modScreen k (fun x => { x with unresponsive := true }) s

/-- R189: the reply timer of the directive in flight for a target has reached 2,000 ms: handled as a FAIL, with the target
unresponsive and the MEDIA value TIMEOUT, which is 2. -/
def mediaTimeout (t : Target) (s : State) : State :=
  match flightFor s.video t with
  | none => s
  | some x =>
    offerPlace (failFollows x.directive (raiseEvent .media (targetCode t) 2 (markUnresponsive t (landed t s))))

/-! ## Standby and reset (R185, R190) -/

/-- Every follow record is reset (R185). -/
def resetFollows (s : State) : State := forEach allSections resetFollow s

end Sys2Proof.Machine
end

