-- ==== Sys2Proof/Machine/Floor.lean ====
section
/-! DEFINITION. The Floor Controller (chapter 4): admission and closing, the queue, the keys, priority, the floor speaker, and
what session starts and ends, freezes and losses do to a floor. An operation here makes its change; the end of an event's
handling (auto-advance, floor speaker, GRACE report) is `floorEvent`, in Calendar.lean. -/

namespace Sys2Proof.Machine

open Sys2Proof

def floorOf (s : State) (r : SectionId) : Floor := s.floors[r]

/-! ## Queue (R48) -/

/-- A QUEUE event with the queue's new length (R82). -/
def raiseQueue (r : SectionId) (s : State) : State := raiseEvent .queue r.val (floorOf s r).queue.length s

/-- A seat leaves a queue it is in; the queue's new length is reported. -/
def leaveQueue (r : SectionId) (i : SeatId) (s : State) : State :=
  if i ∈ (floorOf s r).queue then
    raiseQueue r (modFloor r (fun f => { f with queue := f.queue.filter (· != i) }) s)
  else s

/-- A seat leaves the queue without being admitted, and becomes OFF (R48). The QUEUE event comes before the SEAT event
(assumption 33). -/
def withdraw (r : SectionId) (i : SeatId) (s : State) : State := setMic i .off (leaveQueue r i s)

/-- R48: a seat joins the tail and becomes WAITING; from CLOSING its gate goes to 0 at once (R92). The SEAT event comes before the
QUEUE event (assumption 33). -/
def joinTail (r : SectionId) (i : SeatId) (s : State) : State :=
  let s := modFloor r (fun f => { f with queue := f.queue ++ [i] }) s
  let s := setMic i .waiting (modSeat i (fun x => { x with gate := 0 }) s)
  raiseQueue r s

/-- The queue has room under a profile's queue cap (R53, R54, R80). -/
def queueHasRoom (s : State) (r : SectionId) (p : Profile) : Bool :=
  p.queueCap != 0 && (floorOf s r).queue.length < p.queueCap

/-- R53, R54: the seat joins the queue when it has room, and is refused with DENIED otherwise. -/
def queueOrDeny (r : SectionId) (i : SeatId) (p : Profile) (s : State) : State :=
  if queueHasRoom s r p then joinTail r i s else startDenied i s

/-- Every seat of the queue is withdrawn, from the head on (assumption 33). -/
def emptyQueue (r : SectionId) (s : State) : State := forEach (floorOf s r).queue (withdraw r) s

/-! ## Admission and closing (R46, R50, R51) -/

/-- R46: the entries of an open set take the times 1, 2, 3 and so on in their order. -/
def renumbered (es : List OpenEntry) : List OpenEntry :=
  (List.range es.length).zipWith (fun n e => { e with time := n + 1 }) es

/-- R46: every open set is renumbered, and the count is set to the greatest time given. -/
def renumberAll (s : State) : State :=
  let floors := s.floors.map fun f => { f with openSet := renumbered f.openSet }
  let most := allSections.foldl (fun m r => max m (floorOf s r).openSet.length) 0
  { s with floors := floors, admissions := most }

/-- R46: what comes before an admission: a renumbering of every open set when the count stands at 65,535. -/
def roomForAdmission (s : State) : State := if s.admissions < Config.countStop then s else renumberAll s

/-- R46: the admission count advances by one. -/
def nextAdmission (s : State) : State := { s with admissions := s.admissions + 1 }

/-- An entry of the open set is removed. -/
def dropEntry (r : SectionId) (i : SeatId) (s : State) : State :=
  modFloor r (fun f => { f with openSet := f.openSet.filter (·.seat != i) }) s

/-- R50, R70: a seat's speaking time, silence and limit warning begin again. -/
def countsZero (x : Seat) : Seat :=
  { x with speakSecs := 0, speakPart := 0, silence := 0, silencePart := 0, limitWarning := false, beenOn := false }

/-- R46, R50: admission of a seat, with or without the priority-opened mark. The QUEUE event of a seat that leaves the queue comes
before its SEAT event (assumption 33). -/
def admitSeat (r : SectionId) (i : SeatId) (mark : Bool) (s : State) : State :=
  let s := nextAdmission (dropEntry r i (leaveQueue r i (roomForAdmission s)))
  let s := modFloor r (fun f => { f with openSet := f.openSet ++ [⟨i, s.admissions, mark⟩] }) s
  let s := modSeat i countsZero s
  setMic i .opening s

/-- A seat in OPENING, ON or SUSPENDED. -/
def isOpenMic : MicState → Bool
  | .opening => true
  | .on => true
  | .suspended => true
  | _ => false

/-- R51: close a seat; a seat that is not open is left as it stands. -/
def closeSeat (r : SectionId) (i : SeatId) (s : State) : State :=
  let x := s.seats[i]
  if isOpenMic x.mic then
    let s := dropEntry r i s
    let s := modSeat i (fun y => { y with limitWarning := false }) s
    setMic i (if x.mic = .suspended ∧ x.gate = 0 then .off else .closing) s
  else s

/-- The seats of the open set, oldest admission first. -/
def openSeats (s : State) (r : SectionId) : List SeatId := (floorOf s r).openSet.map (·.seat)

/-- The non-chair seats of the open set, oldest first. -/
def openNonChairs (s : State) (r : SectionId) : List SeatId :=
  (openSeats s r).filter fun i => s.cfg.seats[i].role != .chair

/-- Every seat of the open set is closed, oldest admission first (assumption 33). -/
def closeAll (r : SectionId) (s : State) : State := forEach (openSeats s r) (closeSeat r) s

/-- The oldest non-chair seat of the open set is closed (R53, R57). -/
def closeOldest (r : SectionId) (s : State) : State :=
  match (openNonChairs s r).head? with
  | none => s
  | some i => closeSeat r i s

/-- R72: the newest non-chair seat is closed. -/
def closeNewest (r : SectionId) (s : State) : State :=
  match (openNonChairs s r).getLast? with
  | none => s
  | some i => closeSeat r i s

/-- R72: the newest non-chair seats are closed until the count equals max open; `n` bounds the closes. -/
def closeExcess (r : SectionId) (max : Nat) : Nat → State → State
  | 0, s => s
  | n + 1, s => if max < admittedCount s r then closeExcess r max n (closeNewest r s) else s

/-! ## Auto-advance (R60) -/

/-- R60: the four conditions. -/
def mayAdvance (s : State) (r : SectionId) : Bool :=
  match floorProfile s r with
  | none => false
  | some p => (floorOf s r).state == .normal && p.autoAdvance && admittedCount s r < p.maxOpen

/-- R60: while the four conditions hold, the head of the queue is admitted; `n` bounds the admissions. -/
def autoAdvanceN (r : SectionId) : Nat → State → State
  | 0, s => s
  | n + 1, s =>
    if mayAdvance s r then
      match (floorOf s r).queue.head? with
      | none => s
      | some i => autoAdvanceN r n (admitSeat r i false s)
    else s

def autoAdvance (r : SectionId) (s : State) : State := autoAdvanceN r (floorOf s r).queue.length s

/-! ## Floor speaker (R69) -/

/-- R69: the floor speaker is worked out again; a new one is named, and handed to the Screen Director. -/
def updateSpeaker (r : SectionId) (s : State) : State :=
  let sp := computeSpeaker s r
  if sp = (floorOf s r).speaker then s
  else candidateChange r sp (modFloor r (fun f => { f with speaker := sp }) s)

/-! ## Keys at a floor (R53 to R59, R68) -/

/-- R53, R54: a DELEGATE's TALK PRESS from OFF or CLOSING at a NORMAL floor. -/
def talkNormal (r : SectionId) (i : SeatId) (p : Profile) (s : State) : State :=
  let room := decide (admittedCount s r < p.maxOpen)
  match p.mode with
  | .openMode =>
    if room then admitSeat r i false s
    else match p.fullPolicy with
      | .deny => startDenied i s
      | .queue => queueOrDeny r i p s
      | .replaceOldest => admitSeat r i false (closeOldest r s)
  | .request => queueOrDeny r i p s
  | .voice => if room then admitSeat r i false s else startDenied i s

/-- R68: a DELEGATE's TALK PRESS from OFF or CLOSING at a floor in PRIORITY. -/
def talkPriority (r : SectionId) (i : SeatId) (p : Profile) (s : State) : State :=
  if p.mode = .request ∨ (p.mode = .openMode ∧ p.fullPolicy = .queue) then queueOrDeny r i p s
  else startDenied i s

/-- R53 to R55, R68: a DELEGATE's TALK PRESS at a floor in session. -/
def delegateTalk (r : SectionId) (i : SeatId) (p : Profile) (s : State) : State :=
  match s.seats[i].mic with
  | .waiting => withdraw r i s
  | .opening => closeSeat r i s
  | .on => closeSeat r i s
  | .suspended => closeSeat r i s
  | _ => if (floorOf s r).state = .priority then talkPriority r i p s else talkNormal r i p s

/-- R55: a DELEGATE's CANCEL PRESS. -/
def delegateCancel (r : SectionId) (i : SeatId) (s : State) : State :=
  match s.seats[i].mic with
  | .waiting => withdraw r i s
  | .opening => closeSeat r i s
  | .on => closeSeat r i s
  | _ => s

/-- R56: a CHAIR's TALK PRESS. -/
def chairTalk (r : SectionId) (i : SeatId) (s : State) : State :=
  match s.seats[i].mic with
  | .opening => closeSeat r i s
  | .on => closeSeat r i s
  | .waiting => s
  | _ => admitSeat r i false s

/-- R56: a CHAIR's CANCEL PRESS. -/
def chairCancel (r : SectionId) (i : SeatId) (s : State) : State :=
  match s.seats[i].mic with
  | .opening => closeSeat r i s
  | .on => closeSeat r i s
  | _ => s

/-- R57: a NEXT PRESS from a CHAIR; no effect in VOICE mode and in PRIORITY. -/
def chairNext (r : SectionId) (p : Profile) (s : State) : State :=
  if (floorOf s r).state ≠ .normal ∨ p.mode = .voice then s
  else match (floorOf s r).queue.head? with
    | none => s
    | some i =>
      if admittedCount s r < p.maxOpen then admitSeat r i false s
      else admitSeat r i false (closeOldest r s)

/-- R58: a CLEAR PRESS from a CHAIR. -/
def chairClear (r : SectionId) (s : State) : State :=
  emptyQueue r (forEach (openNonChairs s r) (closeSeat r) s)

/-- R65: every non-chair seat in OPENING or ON that is not a holder becomes SUSPENDED, oldest admission first (assumption 33). -/
def suspendOthers (r : SectionId) (s : State) : State :=
  forEach (openNonChairs s r) (fun i t =>
    if (t.seats[i].mic = .opening ∨ t.seats[i].mic = .on) ∧ i ∉ (floorOf t r).holders then setMic i .suspended t else t) s

/-- R65: a PRIORITY PRESS from a CHAIR. -/
def priorityPress (r : SectionId) (i : SeatId) (s : State) : State :=
  if i ∈ (floorOf s r).holders then s
  else
    let first := (floorOf s r).holders.isEmpty
    let s := modFloor r (fun f => { f with holders := f.holders ++ [i] }) s
    let s := if first then suspendOthers r (modFloor r (fun f => { f with state := .priority }) s) else s
    if s.seats[i].mic = .opening ∨ s.seats[i].mic = .on then s else admitSeat r i true s

/-- R67: every SUSPENDED seat of the open set becomes OPENING, oldest admission first (assumption 33), and the floor returns to
NORMAL. -/
def resumeFloor (r : SectionId) (s : State) : State :=
  let s := modFloor r (fun f => { f with state := .normal }) s
  forEach (openSeats s r) (fun i t => if t.seats[i].mic = .suspended then setMic i .opening t else t) s

/-- R67: the holders of a floor in PRIORITY have become empty. -/
def resumeIfFree (r : SectionId) (s : State) : State :=
  if (floorOf s r).state = .priority ∧ (floorOf s r).holders = [] then resumeFloor r s else s

/-- A seat leaves the priority holders. -/
def dropHolder (r : SectionId) (i : SeatId) (s : State) : State :=
  modFloor r (fun f => { f with holders := f.holders.filter (· != i) }) s

/-- R66: a PRIORITY RELEASE; no effect from a seat that is not a holder. -/
def priorityRelease (r : SectionId) (i : SeatId) (s : State) : State :=
  if i ∈ (floorOf s r).holders then
    let marked := (floorOf s r).openSet.any fun e => e.seat == i && e.priorityOpened
    let s := dropHolder r i s
    resumeIfFree r (if marked then closeSeat r i s else s)
  else s

/-- R59: a floor key at an INACTIVE floor; only a TALK PRESS from OFF or CLOSING has an effect. -/
def inactiveKey (i : SeatId) (k : Key) (s : State) : State :=
  if k = .talk ∧ (s.seats[i].mic = .off ∨ s.seats[i].mic = .closing) then startDenied i s else s

/-- A floor key PRESS routed to the floor of the seat's room (R27), at a floor in session. -/
def sessionKey (r : SectionId) (i : SeatId) (k : Key) (p : Profile) (s : State) : State :=
  if s.cfg.seats[i].role = .chair then
    match k with
    | .talk => chairTalk r i s
    | .cancel => chairCancel r i s
    | .next => chairNext r p s
    | .clear => chairClear r s
    | .priority => priorityPress r i s
    | _ => s
  else
    match k with
    | .talk => delegateTalk r i p s
    | .cancel => delegateCancel r i s
    | _ => s

/-- A floor key PRESS at the floor of a room, by the floor's state (R53 to R59, R68). -/
def floorKey (r : SectionId) (i : SeatId) (k : Key) (s : State) : State :=
  match (floorOf s r).state with
  | .inactive => inactiveKey i k s
  | .frozen => s
  | _ =>
    match floorProfile s r with
    | none => s
    | some p => sessionKey r i k p s

/-! ## Changes from outside the floor (R70, R73 to R76) -/

/-- R70: a lost seat becomes OFF at once and leaves every collection of its floor. -/
def floorLose (r : SectionId) (i : SeatId) (s : State) : State :=
  let s := dropHolder r i (dropEntry r i (leaveQueue r i s))
  let s := modSeat i countsZero s
  setMic i .off s

/-- R73: a floor takes a session start. -/
def floorStart (r : SectionId) (k : SlotId) (p : ProfileId) (s : State) : State :=
  modFloor r (fun _ => ⟨.normal, some k, some p, [], [], [], none⟩) s

/-- A floor closes every seat of its open set, withdraws its queue and clears its holders (R74, R75, R81). -/
def clearFloor (r : SectionId) (s : State) : State :=
  modFloor r (fun f => { f with holders := [] }) (emptyQueue r (closeAll r s))

/-- R74: a floor takes a session end; a FROZEN floor clears its session slot and profile and stays FROZEN. -/
def floorEnd (r : SectionId) (s : State) : State :=
  if (floorOf s r).state = .frozen then modFloor r (fun f => { f with slot := none, profile := none }) s
  else
    let s := clearFloor r s
    updateSpeaker r (modFloor r (fun f => { f with slot := none, profile := none, state := .inactive }) s)

/-- R75: a floor is frozen for a replan drain; its session slot and profile are kept. -/
def freezeFloor (r : SectionId) (s : State) : State :=
  modFloor r (fun f => { f with state := .frozen }) (clearFloor r s)

/-- R76: every FROZEN floor becomes INACTIVE at the rebuild. -/
def thawFloor (f : Floor) : Floor :=
  if f.state = .frozen then { f with state := .inactive, slot := none, profile := none } else f

def thawAll (s : State) : State := { s with floors := s.floors.map thawFloor }

/-! ## Speaking time (R62) -/

/-- R62: the limit warning of a seat is set, with a LIMIT event WARNING (value 1). -/
def warnSeat (i : SeatId) (s : State) : State :=
  raiseEvent .limit i.val 1 (modSeat i (fun x => { x with limitWarning := true }) s)

/-- R62: a seat is closed at its speak limit, with a LIMIT event REACHED (value 2). -/
def limitClose (r : SectionId) (i : SeatId) (s : State) : State := raiseEvent .limit i.val 2 (closeSeat r i s)

/-- R62: a seat stands at or above its speak limit. -/
def limitDue (p : Profile) (x : Seat) : Bool := p.speakLimit != 0 && p.speakLimit ≤ x.speakSecs

/-- R62: a seat stands at or above its warning point and has no warning yet. A point of 0 is reached as the seat enters ON. -/
def warningDue (p : Profile) (x : Seat) : Bool :=
  warns p && !x.limitWarning && (x.mic == .on || x.beenOn) && warningPoint p ≤ x.speakSecs

/-- R40, R71: the test of a seat against the speak limit of its room's profile. -/
def limitTest (r : SectionId) (i : SeatId) (p : Profile) (s : State) : State :=
  if limitDue p s.seats[i] then limitClose r i s
  else if warningDue p s.seats[i] then warnSeat i s
  else s

/-- R52: a seat enters ON. -/
def entersOn (i : SeatId) (s : State) : State := modSeat i (fun x => { x with beenOn := true }) (setMic i .on s)

/-- R52: a gate report for a seat, by its mic state as it stands. A warning point already reached warns the seat as it enters
ON (R62). -/
def gateReport (r : SectionId) (i : SeatId) (s : State) : State :=
  match s.seats[i].mic with
  | .opening =>
    if s.seats[i].gate = Config.gateOpen then
      let s := entersOn i s
      match floorProfile s r with
      | none => s
      | some p => if s.cfg.seats[i].role ≠ .chair ∧ warningDue p s.seats[i] then warnSeat i s else s
    else s
  | .closing => if s.seats[i].gate = 0 then setMic i .off s else s
  | _ => s

end Sys2Proof.Machine
end

