-- ==== Sys2Proof/Machine/Calendar.lean ====
section
/-! DEFINITION. The Booking Calendar (chapter 7) and the Standby Controller (chapter 8), which call one another: evaluations,
ends and starts of sessions, the hand-over of booking changes, entry into STANDBY, the start of a wake, and the end of the
handling of an event at a floor. -/

namespace Sys2Proof.Machine

open Sys2Proof

/-! ## Booking records -/

/-- Octet of a slot's state in events and replies: the booking's state, or EMPTY (11.6). -/
def slotStateCode (b : Option Booking) : Nat :=
  match b with
  | none => 255
  | some b => bookingStateCode b.state

/-- R155: a slot takes a record, or becomes empty, with a BOOKING event. -/
def putBooking (k : SlotId) (b : Option Booking) (s : State) : State :=
  raiseEvent .booking k.val (slotStateCode b) (modSlot k b s)

/-- A booking takes a state; a change raises a BOOKING event (R155). -/
def setBookingState (k : SlotId) (b : Booking) (st : BookingState) (s : State) : State :=
  if b.state = st then s else putBooking k (some { b with state := st }) s

/-- R139: what an ended booking leaves in its slot. -/
def afterEnd (b : Booking) : Option Booking :=
  match b.recurrence with
  | .once => none
  | .weekly => some { b with state := .scheduled, extension := 0 }

/-- R139: end a booking. The record is no longer in a session state when the floor takes the session end (assumption 9). -/
def endBooking (k : SlotId) (b : Booking) (s : State) : State :=
  let s := putBooking k (afterEnd b) s
  if isSession b.state then restartIdle (floorEnd b.first s) else s

/-! ## Room state changes (R157, R164) -/

/-- R157: the room state changes, with a ROOM event. -/
def setRoomState (x : RoomState) (s : State) : State :=
  raiseEvent .room 0 (roomStateCode x) (modStandby (fun b => { b with room := x }) s)

/-- R164: the start of a wake, apart from the evaluation it triggers. The ROOM event joins the event queue before the BOOKING events
of that evaluation (assumption 14). -/
def startWake (s : State) : State :=
  let s := setRoomState .waking s
  reconcileAll (modStandby (fun b => { b with wake := some 0, idle := 0 }) s)

/-- R143: in STANDBY an entry into LEAD_IN or PENDING first wakes the room. -/
def wakeForBooking (s : State) : State := if s.standby.room = .standby then startWake s else s

/-! ## Evaluation (R133 to R138) -/

/-- What makes an evaluation, as far as R134 and R154 depend on it. -/
inductive Why where
  /-- any cause not named below -/
  | ordinary
  /-- a minute boundary -/
  | minute
  /-- a BOOK ADD or BOOK CHANGE of a slot -/
  | request (k : SlotId)
  /-- a CLOCK SET, with the old minute if there was one -/
  | jump (old : Option Nat)
  /-- the rebuild of a replan, with its affected sections -/
  | rebuild (affected : Vector Bool 4)
  deriving DecidableEq, Repr

/-- R118, R119: the evaluation of a rebuild takes the bookings whose range touches an affected section, and leaves every other as it
was (assumption 15); any other evaluation takes every booking. -/
def covers (w : Why) (b : Booking) : Bool :=
  match w with
  | .rebuild affected => allSections.any fun x => rangeHas b x && affected[x]
  | _ => true

/-- R134, R145, R154: a SCHEDULED or LEAD_IN booking enters PENDING at this evaluation. -/
def reachesStart (w : Why) (k : SlotId) (b : Booking) (now : Nat) : Bool :=
  match w with
  | .ordinary => false
  | .rebuild _ => false
  | .minute => b.start == now
  | .request j => j == k && (intervalOf b).has now
  | .jump none => (intervalOf b).has now
  | .jump (some old) => (intervalOf b).has now && !(intervalOf b).has old

/-- First pass for a SCHEDULED or LEAD_IN booking (R134, R143, R154). -/
def evalWaiting (w : Why) (k : SlotId) (b : Booking) (s : State) : State :=
  let now := s.cal.minute
  if reachesStart w k b now then setBookingState k b .pending (wakeForBooking s)
  else if leadInHas s b now then
    if b.state = .leadIn then s else setBookingState k b .leadIn (wakeForBooking s)
  else setBookingState k b .scheduled s

/-- R136: the session state of a booking whose interval contains now. -/
def sessionStateAt (s : State) (b : Booking) : BookingState :=
  if endingHas s b s.cal.minute then .ending else .inSession

/-- R137, R138: the open set of the booking's room is not empty, its profile has grace, and its grace window contains now. -/
def graceHolds (s : State) (k : SlotId) (b : Booking) : Bool :=
  !(floorOf s b.first).openSet.isEmpty && graceHas s k b s.cal.minute

/-- A clock jump ends a session it passes out of without GRACE (R154). -/
def isJump : Why → Bool
  | .jump _ => true
  | _ => false

/-- First pass for a booking in a session state (R136 to R138, R141, R154). -/
def evalSession (w : Why) (k : SlotId) (b : Booking) (s : State) : State :=
  if isHeld s b then s
  else if (intervalOf b).has s.cal.minute then setBookingState k b (sessionStateAt s b) s
  else if !isJump w && graceHolds s k b then setBookingState k b .grace s
  else endBooking k b s

/-- First pass of an evaluation for one slot (R133). While room time is INVALID no time test is made. -/
def evalFirst (w : Why) (k : SlotId) (s : State) : State :=
  match s.cal.slots[k] with
  | none => s
  | some b =>
    if !s.cal.valid || !covers w b then s
    else match b.state with
      | .scheduled => evalWaiting w k b s
      | .leadIn => evalWaiting w k b s
      | .pending => if (intervalOf b).has s.cal.minute then s else endBooking k b s
      | _ => evalSession w k b s

/-- The session state a booking starts in (R135, R151): ENDING when its ending window already contains now. -/
def startState (s : State) (b : Booking) : BookingState :=
  if s.cal.valid && endingHas s b s.cal.minute then .ending else .inSession

/-- R135: a booking starts, and its floor takes the session start. -/
def startSession (k : SlotId) (b : Booking) (s : State) : State :=
  floorStart b.first k b.profile (setBookingState k b (startState s b) s)

/-- R135: the three conditions of a start. -/
def mayStart (s : State) (b : Booking) : Bool :=
  b.state == .pending && s.standby.room == .active && rangeIsRoom s.planner.active b && !isHeld s b

/-- Second pass of an evaluation for one slot (R133, R135). -/
def evalSecond (w : Why) (k : SlotId) (s : State) : State :=
  match s.cal.slots[k] with
  | none => s
  | some b => if covers w b && mayStart s b then startSession k b s else s

/-- The two passes of an evaluation (R133). -/
def evalPasses (w : Why) (s : State) : State :=
  forEach allSlots (evalSecond w) (forEach allSlots (evalFirst w) s)

/-! ## The hand-over of booking changes (R140, R179) -/

abbrev SlotTable := Vector (Option Booking) 48

def slotSession (b : Option Booking) : Bool := b.any fun x => isSession x.state

/-- A slot's booking changed its state, was added, or was removed (R140). -/
def slotChanged (old new : SlotTable) (k : SlotId) : Bool :=
  (old[k].map (·.state)) != (new[k].map (·.state))

def anySlotChanged (old new : SlotTable) : Bool := allSlots.any (slotChanged old new)

/-- A booking that has left the session states resets the follow record of its room (R179). -/
def handEnd (old new : SlotTable) (k : SlotId) (s : State) : State :=
  match old[k] with
  | none => s
  | some b => if isSession b.state ∧ !slotSession new[k] then resetFollow b.first s else s

/-- A booking that has entered a session state resets the follow record of its room, which then acts (R179). -/
def handStart (old new : SlotTable) (k : SlotId) (s : State) : State :=
  match new[k] with
  | none => s
  | some b => if isSession b.state ∧ !slotSession old[k] then followSessionStart b.first s else s

/-- A room that a changed booking touches (R171). -/
def touchedByChange (p : Plan) (old new : SlotTable) (r : SectionId) : Bool :=
  allSlots.any fun k => slotChanged old new k &&
    (old[k].any (fun b => touchesRoom p b r) || new[k].any (fun b => touchesRoom p b r))

/-- R140: the changes from an old table to the present one are handed to the Screen Director together. It takes the sessions that
ended, then those that started, then the screens of the rooms touched (assumption 38). -/
def handOver (old : SlotTable) (s : State) : State :=
  let new := s.cal.slots
  let p := s.planner.active
  let s := forEach allSlots (handEnd old new) s
  let s := forEach allSlots (handStart old new) s
  forEach allSections (fun r t => if touchedByChange p old new r then reconcileRoom r t else t) s

/-- An evaluation and its hand-over. A wake that arises within it is followed by the evaluation it triggers (R164). -/
def evaluateCore (w : Why) (old : SlotTable) (s : State) : State :=
  let s' := handOver old (evalPasses w s)
  if s.standby.room = .standby ∧ s'.standby.room = .waking then
    handOver s'.cal.slots (evalPasses .ordinary s')
  else s'

/-! ## Entering STANDBY (R159, R160) -/

/-- R159, conditions 2 and 3. -/
def tableQuiet (s : State) : Bool :=
  (allSlots.all fun k => s.cal.slots[k].all fun b => b.state == .scheduled) &&
  (match firstAfter s s.cal.minute (fun _ _ => true) with
    | none => true
    | some (_, b) => !(distance s.cal.minute b.start < s.cfg.room.standbyLead))

/-- The idle delay of the room settings, in frame periods (R159, condition 4). -/
def idleDelayFrames (s : State) : Nat := s.cfg.room.idleDelay * 60 * Config.framesPerSecond

/-- Every seat's mic state is OFF (R158). -/
def allOff (s : State) : Bool := allSeats.all fun i => s.seats[i].mic == .off

/-- R159: the entry conditions. -/
def entryConditions (s : State) : Bool :=
  s.standby.room == .active && s.cal.valid && tableQuiet s && idleDelayFrames s ≤ s.standby.idle &&
    s.planner.state == .idle

/-- R105, R160: the Mix Engine's part of a sleeping room: gates, envelopes and outputs 0. -/
def silence (s : State) : State :=
  modMix (fun m => { m with feeds := Vector.replicate 8 0 })
    (modSeats (fun _ x => { x with gate := 0, env := 0, loud := 0 }) s)

/-- R160: entry into STANDBY; the evaluation it triggers comes last, after the ROOM event (assumption 14). -/
def enterStandby (s : State) : State :=
  let s := setRoomState .standby s
  let s := modStandby (fun b => { b with idle := 0, wake := none }) s
  let s := { s with lines := s.lines.map fun l => { l with pollPhase := 0 } }
  let s := reconcileAll (resetFollows (silence s))
  evaluateCore .ordinary s.cal.slots s

/-- R159: a test of the entry conditions. -/
def standbyTest (s : State) : State := if entryConditions s then enterStandby s else s

/-- An evaluation, its hand-over from an old table, and the Standby Controller's test at a hand-over of changes (R159), which comes
after the Screen Director's part of it (assumption 42). -/
def evaluateFrom (w : Why) (old : SlotTable) (s : State) : State :=
  let s' := evaluateCore w old s
  if anySlotChanged old s'.cal.slots then standbyTest s' else s'

def evaluate (w : Why) (s : State) : State := evaluateFrom w s.cal.slots s

/-- R163: a wake cause; it has an effect only in STANDBY. -/
def wakeCause (s : State) : State :=
  if s.standby.room = .standby then evaluate .ordinary (startWake s) else s

/-! ## The end of an event at a floor (R60, R69, R138) -/

/-- R138: the floor held a GRACE session, and its open set was not empty and now is. -/
def graceEmptied (before : State) (r : SectionId) (s : State) : Bool :=
  !(floorOf before r).openSet.isEmpty && (floorOf s r).openSet.isEmpty &&
    (floorOf s r).slot.any fun k => s.cal.slots[k].any fun b => b.state == .grace

/-- The end of the handling of an event at a floor: auto-advance (R60), then the floor speaker (R69), then the report to the
calendar (R138). -/
def settle (before : State) (r : SectionId) (s : State) : State :=
  let s := updateSpeaker r (autoAdvance r s)
  if graceEmptied before r s then evaluate .ordinary s else s

/-- An event at a floor: its change, and the end of its handling. -/
def floorEvent (r : SectionId) (f : State → State) (s : State) : State := settle s r (f s)

/-! ## Ad hoc sessions (R151, R152) -/

/-- R151 step 2: a booking whose range meets the room's range has an occupied time that contains now. -/
def occupiedNow (s : State) (first last : SectionId) : Bool :=
  allSlots.any fun k =>
    match s.cal.slots[k] with
    | none => false
    | some b => rangesMeet first last b.first b.last && (occupied s k b).any fun j => j.has s.cal.minute

/-- R151 step 2: the length of an ad hoc session. -/
def adHocLength (s : State) (first last : SectionId) : Nat :=
  if occupiedNow s first last then 0
  else match firstConflictAfter s s.cal.minute first last none with
    | none => s.cfg.room.adHocDuration
    | some (_, b) => min s.cfg.room.adHocDuration (distance s.cal.minute b.start)

/-- R152: a booking of the table has a range that meets a range. -/
def rangeTaken (s : State) (first last : SectionId) : Bool :=
  allSlots.any fun k => s.cal.slots[k].any fun b => rangesMeet first last b.first b.last

/-- R151, R152: the start and duration of an ad hoc session for a range, or none when the request is refused. -/
def adHocTimes (s : State) (first last : SectionId) : Option (Nat × Nat) :=
  if s.cal.valid then
    if adHocLength s first last < 15 then none else some (s.cal.minute, adHocLength s first last)
  else if rangeTaken s first last then none
  else some (0, 0)

/-- The lowest empty slot (R145, R151, R152). -/
def emptySlot (s : State) : Option SlotId := allSlots.find? fun k => s.cal.slots[k].isNone

/-- The booking of an ad hoc session (R151, R152). -/
def adHocBooking (start duration : Nat) (first last : SectionId) (p : ProfileId) : Booking where
  state := .inSession
  start := start
  duration := duration
  first := first
  last := last
  profile := p
  recurrence := .once
  origin := .adHoc
  title := 0
  extension := 0

/-- R151, R152: the slot and the record of the ad hoc session that a request for a room makes; none when it is refused. -/
def adHocOffer (s : State) (r : SectionId) : Option (SlotId × Booking) :=
  let last := lastOf s.planner.active r
  match s.cfg.room.adHocProfile, adHocTimes s r last, emptySlot s with
  | some p, some (start, duration), some k =>
    let b := adHocBooking start duration r last p
    some (k, { b with state := startState s b })
  | _, _, _ => none

/-- R151, R152: the booking is placed and started, and an evaluation follows. -/
def makeAdHoc (k : SlotId) (b : Booking) (s : State) : State :=
  let old := s.cal.slots
  evaluateFrom .ordinary old (floorStart b.first k b.profile (putBooking k (some b) s))

/-! ## Extension and end (R148 to R150) -/

/-- R148: the interval of a booking lengthened by 15 minutes. -/
def extendedInterval (b : Booking) : Interval := .span b.start (b.duration + b.extension + 15)

/-- R148: the checks of BOOK EXTEND from step 2 on, in order; the first that fails gives the status. -/
def extendCheck (s : State) (k : SlotId) (b : Booking) : Option Status :=
  if !isSession b.state || isOpenEnd b then some .refused
  else if isHeld s b then some .busy
  else if (bookingProfile s b).extensionLimit < b.extension + 15 then some .locked
  else if conflicts s b.first b.last (extendedInterval b) (some k) then some .conflict
  else none

/-- R148: 15 minutes are added to the extension used, and an evaluation follows. -/
def extendBooking (k : SlotId) (b : Booking) (s : State) : State :=
  let old := s.cal.slots
  evaluateFrom .ordinary old (putBooking k (some { b with extension := b.extension + 15 }) s)

/-- R149: a booking is ended at once, without GRACE, and an evaluation follows. -/
def finishBooking (k : SlotId) (b : Booking) (s : State) : State :=
  let old := s.cal.slots
  evaluateFrom .ordinary old (endBooking k b s)

/-- R150: a chair EXTEND for a room; a refusal shows DENIED at the seat. -/
def chairExtend (r : SectionId) (i : SeatId) (s : State) : State :=
  match sessionSlot s r with
  | none => s
  | some k =>
    match s.cal.slots[k] with
    | none => s
    | some b =>
      match extendCheck s k b with
      | some _ => startDenied i s
      | none => extendBooking k b s

/-- R150: a chair END for a room. -/
def chairEnd (r : SectionId) (s : State) : State :=
  match sessionSlot s r with
  | none => s
  | some k =>
    match s.cal.slots[k] with
    | none => s
    | some b => finishBooking k b s

/-! ## Room time (R124) -/

/-- R124, R159: a minute boundary: the calendar evaluates, and the Standby Controller tests its entry conditions. -/
def atMinute (s : State) : State := standbyTest (evaluate .minute s)

/-- R124: the minute advances. -/
def advanceMinute (s : State) : State :=
  atMinute (modCal (fun c => { c with minute := (c.minute + 1) % Config.week, second := 0, frame := 0 }) s)

/-- R124: one frame period of room time. -/
def tickRoomTime (s : State) : State :=
  if !s.cal.valid then s
  else if s.cal.frame + 1 < Config.framesPerSecond then modCal (fun c => { c with frame := c.frame + 1 }) s
  else if s.cal.second + 1 < 60 then modCal (fun c => { c with frame := 0, second := c.second + 1 }) s
  else advanceMinute s

end Sys2Proof.Machine
end

