-- ==== Sys2Proof/Machine/Seats.lean ====
section
/-! DEFINITION. Keys (chapter 2) and key latches (section 1.6): which keys a seat kind has, where each goes by the seat's role,
what a latch holds back, and how latches are emptied. -/

namespace Sys2Proof.Machine

open Sys2Proof

/-! ## Keys at the Seat Table (R26 to R30) -/

/-- Section 2.3: the keys of a seat kind. -/
def kindHasKey (kind : SeatKind) (k : Key) : Bool :=
  match kind with
  | .chairUnit => true
  | .delegateUnit => k == .talk || k == .cancel || k == .share

/-- The block a key PRESS goes to (section 2.4). -/
inductive Route where
  | floor
  | screens
  | calendar
  | ignored
  deriving DecidableEq, Repr

/-- R27: the route of a key PRESS by the seat's role. -/
def routeOf (role : Role) (k : Key) : Route :=
  match role with
  | .listener => .ignored
  | .chair =>
    match k with
    | .share => .screens
    | .extend => .calendar
    | .endSession => .calendar
    | _ => .floor
  | .delegate =>
    match k with
    | .talk => .floor
    | .cancel => .floor
    | .share => .screens
    | _ => .ignored

/-- R29: the press opens an ad hoc session. -/
def wantsAdHoc (s : State) (i : SeatId) : Bool :=
  let r := roomOfSeat s i
  (s.seats[i].mic == .off || s.seats[i].mic == .closing) && !roomInSession s r && !roomPending s r

/-- A floor key PRESS is handed to the floor of the seat's room. -/
def toFloor (i : SeatId) (k : Key) (s : State) : State :=
  let r := roomOfSeat s i
  floorEvent r (floorKey r i k) s

/-- R29: a TALK PRESS routed to the floor. -/
def talkPress (i : SeatId) (s : State) : State :=
  if wantsAdHoc s i then
    match adHocOffer s (roomOfSeat s i) with
    | none => startDenied i s
    | some (k, b) => toFloor i .talk (makeAdHoc k b s)
  else toFloor i .talk s

/-- R27: a key PRESS handed to its owner block. -/
def pressAt (route : Route) (i : SeatId) (k : Key) (s : State) : State :=
  match route with
  | .ignored => s
  | .screens => sharePress i s
  | .calendar => if k = .extend then chairExtend (roomOfSeat s i) i s else chairEnd (roomOfSeat s i) s
  | .floor => if k = .talk then talkPress i s else toFloor i k s

/-- R27, R30: a key PRESS; one handed on is seat activity first. -/
def keyPress (i : SeatId) (k : Key) (s : State) : State :=
  let route := routeOf s.cfg.seats[i].role k
  if route = .ignored then s else pressAt route i k (restartIdle s)

/-- R28: the Seat Table hands a PRIORITY RELEASE to the floor. -/
def releaseHanded (s : State) (i : SeatId) : Bool :=
  s.cfg.seats[i].role == .chair || s.floors[roomOfSeat s i].holders.contains i

/-- R28: a key RELEASE. -/
def keyRelease (i : SeatId) (k : Key) (s : State) : State :=
  if k = .priority ∧ releaseHanded s i then
    let r := roomOfSeat s i
    floorEvent r (priorityRelease r i) (restartIdle s)
  else s

/-- R26 to R30: a key event that reaches the Seat Table. -/
def handleKey (i : SeatId) (e : KeyEvent) (s : State) : State :=
  if kindHasKey s.seats[i].kind e.key then
    match e.action with
    | .press => keyPress i e.key s
    | .release => keyRelease i e.key s
  else s

/-! ## Key latches (R18 to R20) -/

/-- A TALK PRESS. -/
def isTalkPress (e : KeyEvent) : Bool := e.key == .talk && e.action == .press

/-- R19: a key event is stored in a latch. -/
def latchStore (i : SeatId) (e : KeyEvent) (s : State) : State :=
  modSeat i (fun x => { x with latch := some e, overrun := x.overrun || x.latch.isSome }) s

/-- R18: a valid KEY from a PRESENT seat on a RUNNING line. -/
def keyArrives (i : SeatId) (e : KeyEvent) (s : State) : State :=
  match latchMode s i with
  | .off => handleKey i e s
  | .all => latchStore i e s
  | .talkOnly => if isTalkPress e then wakeCause (latchStore i e s) else s

/-- An OVERRUN event when the flag was set (R20). -/
def raiseOverrun (i : SeatId) (flag : Bool) (s : State) : State := if flag then raiseEvent .overrun i.val 0 s else s

/-- A latch and its overrun flag are emptied. -/
def emptyLatch (i : SeatId) (s : State) : State := modSeat i (fun x => { x with latch := none, overrun := false }) s

/-- R20: the latch of a seat after its latch mode has become `mode`. -/
def examineLatch (mode : LatchMode) (i : SeatId) (s : State) : State :=
  let flag := s.seats[i].overrun
  match s.seats[i].latch with
  | none => s
  | some e =>
    match mode with
    | .off => raiseOverrun i flag (handleKey i e (emptyLatch i s))
    | .talkOnly => if isTalkPress e then wakeCause s else raiseOverrun i flag (emptyLatch i s)
    | .all => s

/-- R20: the latches of a set of seats are examined, in increasing seat number, after one change of mode. -/
def examineLatches (is : List SeatId) (mode : LatchMode) (s : State) : State := forEach is (examineLatch mode) s

end Sys2Proof.Machine
end

