-- ==== Sys2Proof/Machine/Planner.lean ====
section
/-! DEFINITION. The Room Planner (chapter 6): the drain and the rebuild of a replan, the pending plan, and the passage of the
room to ACTIVE at the end of a wake (R165), which releases latches as a rebuild does. -/

namespace Sys2Proof.Machine

open Sys2Proof

/-- Change every seat of a set. -/
def onSeats (is : List SeatId) (f : Seat → Seat) (s : State) : State := forEach is (fun i => modSeat i f) s

/-! ## The drain (R114) -/

/-- The old rooms that contain an affected section: affected sections make up whole rooms (R113). -/
def affectedRooms (s : State) : List SectionId :=
  allSections.filter fun r => isRoom s.planner.active r && s.planner.affected[r]

/-- R114, step 1: the replan state, the target plan and the affected sections. -/
def aimAt (target : Plan) (s : State) : State :=
  modPlanner (fun p => { p with state := .draining, target := some target, affected := affectedSections p.active target }) s

/-- R114, step 3: the floors of the old rooms freeze, and name no floor speaker. -/
def freezeRooms (s : State) : State :=
  let rooms := affectedRooms s
  forEach rooms updateSpeaker (forEach rooms freezeFloor s)

/-- R114, step 4: the affected sections are handed to the calendar, whose hold is then in force (R141). -/
def holdBookings (s : State) : State := modCal (fun c => { c with held := s.planner.affected }) s

/-- R138: a GRACE session's floor that the freeze emptied is reported; its booking is held by then (assumption 10). -/
def reportFrozen (before s : State) : State :=
  if (affectedRooms s).any (fun r => graceEmptied before r s) then evaluate .ordinary s else s

/-- R114, steps 1 to 4. -/
def drain (target : Plan) (s : State) : State :=
  let s := aimAt target s
  let s := onSeats (affectedSeats s) (fun x => { x with latchEnable := true }) s
  reportFrozen s (holdBookings (freezeRooms s))

/-- R117: every seat of the affected sections has gate value 0. -/
def drainOver (s : State) : Bool := (affectedSeats s).all fun i => s.seats[i].gate == 0

/-! ## The rebuild (R118) -/

/-- R118, step 1. -/
def takeTarget (s : State) : State :=
  modPlanner (fun p => { p with active := p.target.getD p.active, target := none }) s

/-- R119, R142: a held booking in a session state returns to PENDING. -/
def returnToPending (held : Vector Bool 4) (k : SlotId) (s : State) : State :=
  match s.cal.slots[k] with
  | none => s
  | some b =>
    if isSession b.state && allSections.any (fun x => rangeHas b x && held[x]) then setBookingState k b .pending s else s

/-- R118, step 3: the calendar releases its hold and evaluates. -/
def rebuildCalendar (s : State) : State :=
  let old := s.cal.slots
  let held := s.cal.held
  let s := modCal (fun c => { c with held := Vector.replicate 4 false }) s
  evaluateFrom (.rebuild held) old (forEach allSlots (returnToPending held) s)

/-- R184: a new room acts on its candidate when it is FOLLOWING and in session. -/
def actIfInSession (r : SectionId) (s : State) : State :=
  if s.video.follow[r].state = .following ∧ roomInSession s r then actCandidate r s else s

/-- R118, step 4, R120, R184: re-homing. -/
def rehome (s : State) : State :=
  let affected := s.planner.affected
  let s := forEach (allSections.filter fun r => affected[r]) resetFollow s
  let s := forEach (affectedRooms s) actIfInSession s
  forEach allScreens (fun k t => if affected[t.cfg.screens[k].home] then reconcile k t else t) s

/-- R118, step 5, R121: the latch enables are cleared and the latches examined under the mode that follows. -/
def releaseAffected (s : State) : State :=
  let is := affectedSeats s
  let s := onSeats is (fun x => { x with latchEnable := false }) s
  examineLatches is (latchModeOf false s.standby.room) s

/-- R118, steps 1 to 6, and the affected sections cleared (step 7). -/
def rebuildOnce (s : State) : State :=
  let s := thawAll (takeTarget s)
  let s := releaseAffected (rehome (rebuildCalendar s))
  let s := raiseEvent .plan 0 (planCode s.planner.active) s
  modPlanner (fun p => { p with affected := Vector.replicate 4 false }) s

/-- R118, step 7, R159: the replan state becomes IDLE, and the Standby Controller tests. -/
def planIdle (s : State) : State := standbyTest (modPlanner (fun p => { p with state := .idle }) s)

/-- R112, R118: the rebuild, and the replan of a pending plan that differs from the new active plan. Nothing sets a pending
plan inside a rebuild, so a second rebuild finds none. -/
def rebuild (s : State) : State :=
  let s := rebuildOnce s
  match s.planner.pendingPlan with
  | none => planIdle s
  | some p =>
    let s := modPlanner (fun x => { x with pendingPlan := none }) s
    if p = s.planner.active then planIdle s
    else
      let s := drain p s
      if drainOver s then planIdle (rebuildOnce s) else s

/-- R114, R117: a replan begins; its drain may end at once. -/
def beginReplan (target : Plan) (s : State) : State :=
  let s := drain target s
  if drainOver s then rebuild s else s

/-- R117: the test of the end of a drain. -/
def drainTest (s : State) : State :=
  if s.planner.state = .draining ∧ drainOver s then rebuild s else s

/-- R110: a report that the Room Planner sees. -/
def report (p : Plan) (s : State) : State :=
  match s.planner.state with
  | .draining => modPlanner (fun x => { x with pendingPlan := some p }) s
  | .idle => if p = s.planner.active then s else beginReplan p s

/-! ## The end of a wake (R165) -/

/-- R165, step 1: the room state and the timers. Frame computations are made again from the next frame period, so none is due in
the one in progress (assumption 37). -/
def becomeActive (s : State) : State :=
  modMix (fun m => { m with computed := true }) (modStandby (fun b => { b with room := .active, wake := none, idle := 0 }) s)

/-- R165: the wake timer has reached 2,000 ms; the screens are reconciled at the change of room state (R171). -/
def wakeEnd (s : State) : State :=
  let s := evaluate .ordinary (reconcileAll (becomeActive s))
  let s := forEach allSeats (fun i t => examineLatch (latchModeOf t.seats[i].latchEnable .active) i t) s
  raiseEvent .room 0 (roomStateCode .active) s

end Sys2Proof.Machine
end

