-- ==== Sys2Proof/Machine/Mix.lean ====
section
/-! DEFINITION. The Mix Engine (chapter 5), and what the Floor Controller and the Room Planner do with what each frame
computation hands them: gate reports, speaking time and silence, voice admission, and the end of a drain. -/

namespace Sys2Proof.Machine

open Sys2Proof

/-! ## Arithmetic (R85) -/

/-- R85: `v` divided by `d` with rounding: half of `d` added, and the greatest integer not above the quotient. -/
def divRound (v d : Int) : Int := (v + d / 2) / d

/-- Section 3.3, R85: limit a value to the sample range. -/
def clampSample (v : Int) : Int := max (-32768) (min 32767 v)

/-- R85: the clamp replaces the value. -/
def clipped (v : Int) : Bool := clampSample v != v

/-- A clamped value as a sample on a wire. -/
def toSample (v : Int) : Sample := BitVec.ofInt 16 v

/-! ## Stages 1 to 3 (R86, R87, R89, R90) -/

/-- R86: the gained sample s1. -/
def gainedSample (x : Int) (gain : Nat) : Int := clampSample (divRound (x * gain) 4096)

/-- R87: the envelope after a gained sample. -/
def nextEnvelope (env : Nat) (s1 : Int) : Nat :=
  let a := min s1.natAbs 32767
  if env < a then a else env - (env + 8191) / 8192

/-- R89: the gated sample s2. -/
def gatedSample (s1 : Int) (gate : Nat) : Int := divRound (s1 * gate) 256

/-- R90: the step of a gate by the mic state. -/
def nextGate (mic : MicState) (gate : Nat) : Nat :=
  match mic with
  | .opening => min 256 (gate + 1)
  | .on => 256
  | .closing => gate - 1
  | .suspended => gate - 1
  | .off => 0
  | .waiting => 0

/-- The microphone sample that a seat's line unit handed over (R86). A computation that comes while a line's frame is still on the
ring takes the samples of that line's frame before (assumption 31). -/
def micOf (s : State) (i : SeatId) : Int := s.lines[sectionOf i].mic[positionOf i].toInt

/-- The gained sample of a seat; 0 for one that is not live (R86). -/
def s1Of (s : State) (i : SeatId) : Int := if isLive s i then gainedSample (micOf s i) s.cfg.seats[i].gain else 0

/-! ## Stages 4 and 5 (R93, R94, R97) -/

/-- R94: the NOM factor by the number of contributing seats. -/
def nomFactor (n : Nat) : Int :=
  match n with
  | 0 => 4096
  | 1 => 4096
  | 2 => 2896
  | 3 => 2365
  | 4 => 2048
  | 5 => 1832
  | 6 => 1672
  | 7 => 1548
  | _ => 1448

/-- R93: a contributing seat of a room. -/
def contributes (s : State) (r : SectionId) (i : SeatId) : Bool := roomOfSeat s i == r && isLive s i && 0 < s.seats[i].gate

/-- A room's bus: its sum, NOM factor, room mix and program mix (R94, R97). -/
structure Bus where
  sum : Int
  factor : Int
  mix : Int
  program : Int
  deriving DecidableEq, Repr

/-- R95, R97: a program's home reaches a room. -/
def homeReaches (p : Plan) (r : SectionId) : Home → Bool
  | .sec x => roomOfSection p x == r
  | .all => true
  | .none => false

/-- R97: the program mix of a room. -/
def programMix (s : State) (r : SectionId) : Int :=
  ((List.finRange 4).map fun p : Fin 4 =>
    if homeReaches s.planner.active r s.cfg.programs[p].home then
      divRound (s.trunk.programs[p].toInt * s.cfg.programs[p].gain) 4096
    else 0).sum

/-- R93, R94: the factor of a room with `n` contributing seats. -/
def roomFactor (s : State) (r : SectionId) (n : Nat) : Int :=
  if (floorProfile s r).any (·.nom) then nomFactor n else 4096

/-- R94: the bus of a room, from the gated samples. -/
def busOf (s : State) (s2 : Vector Int 64) (r : SectionId) : Bus :=
  let seats := allSeats.filter (contributes s r)
  let sum := (seats.map fun i => s2[i]).sum
  let factor := roomFactor s r seats.length
  ⟨sum, factor, divRound (sum * factor) 4096, programMix s r⟩

/-! ## Stage 6 (R98 to R101) -/

/-- R98: the room feed of a room id, before the clamp; 0 for an id that is no room. -/
def roomFeed (s : State) (bus : Vector Bus 4) (r : SectionId) : Int := if isRoom s.planner.active r then bus[r].mix else 0

/-- R99: the section feed, before the clamp. -/
def sectionFeed (s : State) (bus : Vector Bus 4) (x : SectionId) : Int :=
  let b := bus[roomOfSection s.planner.active x]
  divRound ((b.mix + b.program) * s.cfg.sections[x].feedLevel) 4096

/-- R100: the mix-minus of a seat. -/
def mixMinus (s : State) (b : Bus) (i : SeatId) (s2 : Int) : Int :=
  let own := if 0 < s.seats[i].gate then s2 else 0
  divRound ((b.sum - own) * b.factor) 4096 + b.program

/-- R101: the duck factor that applies to a seat's loudspeaker, if any. -/
def duckOf (s : State) (i : SeatId) : Option Nat :=
  if s.seats[i].mic = .opening ∨ s.seats[i].mic = .on then (floorProfile s (roomOfSeat s i)).map (·.duck) else none

/-- R101: the loudspeaker sample of a live seat, before the clamp. -/
def loudspeaker (s : State) (bus : Vector Bus 4) (i : SeatId) (s2 : Int) : Int :=
  let mm := mixMinus s bus[roomOfSeat s i] i s2
  let ducked := match duckOf s i with
    | none => mm
    | some d => divRound (mm * d) 4096
  divRound (ducked * s.cfg.seats[i].volume) 4096

/-- All that one frame computation works out from one state. -/
structure Frame where
  s1 : Vector Int 64
  s2 : Vector Int 64
  bus : Vector Bus 4
  /-- the eight outputs on the trunk before their clamps: section feeds, then room feeds (R98, R99) -/
  feeds : Vector Int 8
  /-- the loudspeaker outputs before their clamps; 0 for a seat that is not live -/
  loud : Vector Int 64
  deriving DecidableEq, Repr

/-- R84 to R101: the computation. -/
def frameOf (s : State) : Frame :=
  let s1 := Vector.ofFn fun i : SeatId => s1Of s i
  let s2 := Vector.ofFn fun i : SeatId => gatedSample s1[i] s.seats[i].gate
  let bus := Vector.ofFn fun r : SectionId => busOf s s2 r
  let feeds := Vector.ofFn fun c : Fin 8 =>
    if h : c.val < 4 then sectionFeed s bus ⟨c.val, h⟩ else roomFeed s bus ⟨c.val - 4, by omega⟩
  let loud := Vector.ofFn fun i : SeatId => if isLive s i then loudspeaker s bus i s2[i] else 0
  ⟨s1, s2, bus, feeds, loud⟩

/-! ## Clips (R102, R103) -/

/-- R102: the clips of one frame at each of the twelve outputs. -/
def clipsOf (f : Frame) (c : Fin 12) : Nat :=
  if h : c.val < 8 then (if clipped f.feeds[c.val] then 1 else 0)
  else ((seatsOf ⟨c.val - 8, by omega⟩).filter fun i => clipped f.loud[i]).length

/-- R102: a counter after the clips of a frame, stopping at 65,535. -/
def countClips (n clips : Nat) : Nat := min Config.countStop (n + clips)

/-- R103: the counters taken up from 0 raise a CLIP event each, in increasing index (assumption 30). -/
def clipEvents (old new : Vector Nat 12) (s : State) : State :=
  forEach (List.finRange 12) (fun c t => if old[c] = 0 ∧ new[c] ≠ 0 then raiseEvent .clip c.val 0 t else t) s

/-- R87, R88, R90, R101: a seat's record after the computation. -/
def afterFrame (s : State) (f : Frame) (i : SeatId) (x : Seat) : Seat :=
  if isLive s i then
    { x with gate := nextGate x.mic x.gate, env := nextEnvelope x.env f.s1[i], loud := toSample (clampSample f.loud[i]) }
  else { x with gate := 0, env := 0, loud := 0 }

/-- The Mix Engine's own part of a frame computation (R84 to R103). -/
def mixFrame (s : State) : State :=
  let f := frameOf s
  let old := s.mix.clips
  let new := Vector.ofFn fun c : Fin 12 => countClips old[c] (clipsOf f c)
  let s := modSeats (afterFrame s f) s
  let s := modMix (fun m => { m with clips := new, feeds := Vector.ofFn fun c : Fin 8 => toSample (clampSample f.feeds[c]) }) s
  clipEvents old new s

/-! ## What the frame hands on (R52, R61 to R64, R91, R117) -/

/-- R91: a seat that the Mix Engine reports after the step, in a state where the report has an effect (R52). -/
def reportsGate (before s : State) (i : SeatId) : Bool :=
  isLive before i &&
    ((before.seats[i].mic == .opening && s.seats[i].gate == 256) || (before.seats[i].mic == .closing && s.seats[i].gate == 0))

/-- The seats of a room, in increasing seat number. -/
def seatsOfRoom (s : State) (r : SectionId) : List SeatId := allSeats.filter fun i => roomOfSeat s i == r

/-- The rooms of the active plan. -/
def roomsOf (s : State) : List SectionId := allSections.filter (isRoom s.planner.active)

/-- R91: the reports of one computation for the seats of one room reach its floor as one change. -/
def gateReports (before : State) (r : SectionId) (s : State) : State :=
  match (seatsOfRoom s r).filter (reportsGate before s) with
  | [] => s
  | is => floorEvent r (forEach is (gateReport r)) s

/-- R61: one frame more in ON; each 16,000 frames add 1 to the speaking seconds. -/
def countSpeaking (x : Seat) : Seat :=
  if x.speakPart + 1 < Config.framesPerSecond then { x with speakPart := x.speakPart + 1 }
  else { x with speakPart := 0, speakSecs := min Config.countStop (x.speakSecs + 1) }

/-- R63: one frame more in ON, against the silence threshold. -/
def countSilence (threshold : Nat) (x : Seat) : Seat :=
  if threshold ≤ x.env then { x with silence := 0, silencePart := 0 }
  else if x.silencePart + 1 < Config.framesPerSecond then { x with silencePart := x.silencePart + 1 }
  else { x with silencePart := 0, silence := min 255 (x.silence + 1) }

/-- R61, R63: the counts of a seat that was ON in the frame computed and is ON still; chairs have no silence. -/
def countSeat (before s : State) (i : SeatId) (x : Seat) : Seat :=
  if before.seats[i].mic = .on ∧ x.mic = .on then
    let x := countSpeaking x
    match floorProfile s (roomOfSeat s i) with
    | none => x
    | some p => if s.cfg.seats[i].role = .chair then x else countSilence p.silenceThreshold x
  else x

def countSeats (before s : State) : State := modSeats (countSeat before s) s

/-- R64: a seat's envelope has crossed the talk threshold in this frame, and the seat may be admitted by it. It must have been OFF
before the computation too, so a seat that a gate report of this frame makes OFF is not admitted (assumption 8). -/
def voiceCrosses (before : State) (p : Profile) (s : State) (i : SeatId) : Bool :=
  s.cfg.seats[i].role == .delegate && before.seats[i].mic == .off && s.seats[i].mic == .off &&
    before.seats[i].env < p.talkThreshold && p.talkThreshold ≤ s.seats[i].env

/-- R64: a crossing seat is admitted while count allows. -/
def voiceAdmit (r : SectionId) (p : Profile) (i : SeatId) (s : State) : State :=
  if s.floors[r].state = .normal ∧ admittedCount s r < p.maxOpen then admitSeat r i false s else s

/-- R64: voice admission in a room. -/
def voiceRoom (before : State) (r : SectionId) (s : State) : State :=
  match floorProfile s r with
  | none => s
  | some p =>
    if p.mode = .voice then
      match (seatsOfRoom s r).filter (voiceCrosses before p s) with
      | [] => s
      | is => floorEvent r (forEach is (voiceAdmit r p)) s
    else s

/-- R62, R63: the profile that tests a seat: that of its room, for a non-chair seat in ON. -/
def testedProfile (s : State) (i : SeatId) : Option Profile :=
  if s.seats[i].mic = .on ∧ s.cfg.seats[i].role ≠ .chair then floorProfile s (roomOfSeat s i) else none

/-- R63: the silence duration of a seat has reached the silence close time. -/
def silenceDue (p : Profile) (x : Seat) : Bool := silenceTime p != 0 && silenceTime p ≤ x.silence

/-- R63: a seat is closed for silence. -/
def silenceClose (i : SeatId) (s : State) : State :=
  let r := roomOfSeat s i
  floorEvent r (closeSeat r i) s

/-- R62: a seat's speaking seconds against the warning point and the limit. A seat that enters ON with held seconds at or above a limit
that was lowered, or came to apply, while it was OPENING is closed in that frame (assumption 40). -/
def limitDueTest (i : SeatId) (s : State) : State :=
  match testedProfile s i with
  | none => s
  | some p =>
    let r := roomOfSeat s i
    if limitDue p s.seats[i] || warningDue p s.seats[i] then floorEvent r (limitTest r i p) s else s

/-- R63: a seat's silence against the silence close time. -/
def silenceDueTest (i : SeatId) (s : State) : State :=
  match testedProfile s i with
  | none => s
  | some p => if silenceDue p s.seats[i] then silenceClose i s else s

/-- R84: a frame computation of an ACTIVE room, with all that it hands on. -/
def activeFrame (before : State) : State :=
  let s := mixFrame before
  let s := forEach (roomsOf s) (gateReports before) s
  let s := countSeats before s
  let s := forEach (roomsOf s) (voiceRoom before) s
  let s := drainTest s
  forEach allSeats (fun i t => silenceDueTest i (limitDueTest i t)) s

/-- R84, R105: the frame computation of the frame period; a room that is not ACTIVE makes none. -/
def frameStep (s : State) : State :=
  let s := if s.standby.room = .active then activeFrame s else s
  modMix (fun m => { m with computed := true }) s

end Sys2Proof.Machine
end

