-- ==== Sys2Proof/Machine/Operands.lean ====
section
/-! DEFINITION. The nine tables of READ and WRITE (10.5, 11.5): entries, fields, kinds and ranges, what a WRITE's value becomes,
and the octets a READ gives. -/

namespace Sys2Proof.Machine

open Sys2Proof

/-! ## Tables and fields -/

/-- What a WRITE to a field is checked by (chapters 2, 3, 5, 9). -/
inductive FieldKind where
  /-- a number, limited to a range -/
  | numeric (lo hi : Nat)
  /-- one of the values the field defines -/
  | enumerated
  /-- a runtime field, read only -/
  | runtime
  deriving DecidableEq, Repr

/-- Section 10.5: the entries of a table; none: the table is not defined. -/
def tableEntries (t : Nat) : Option Nat :=
  match t with
  | 0 => some 64
  | 1 => some 8
  | 2 => some 1
  | 3 => some 4
  | 4 => some 8
  | 5 => some 8
  | 6 => some 4
  | 7 => some 48
  | 8 => some 12
  | _ => none

/-- Tables that no WRITE reaches: BOOKING and CLIP (R199). -/
def readOnlyTable (t : Nat) : Bool := t == 7 || t == 8

/-- The fields of a SEAT entry (section 2.1, R24). -/
def seatField (f : Nat) : Option FieldKind :=
  match f with
  | 0 => some .enumerated
  | 1 => some (.numeric 0 8191)
  | 2 => some (.numeric 0 4096)
  | 3 => some .enumerated
  | 4 => some (.numeric 0 127)
  | 5 => some .enumerated
  | 6 => some (.numeric 0 255)
  | n => if n ≤ 15 then some .runtime else none

/-- The fields of a PROFILE entry (R36). -/
def profileField (f : Nat) : Option FieldKind :=
  match f with
  | 0 => some .enumerated
  | 1 => some (.numeric 1 8)
  | 2 => some (.numeric 0 32)
  | 3 => some .enumerated
  | 4 => some .enumerated
  | 5 => some (.numeric 0 3600)
  | 6 => some (.numeric 0 300)
  | 7 => some (.numeric 0 255)
  | 8 => some (.numeric 0 32767)
  | 9 => some (.numeric 0 32767)
  | 10 => some .enumerated
  | 11 => some (.numeric 0 4096)
  | 12 => some (.numeric 0 30)
  | 13 => some .enumerated
  | 14 => some (.numeric 0 15)
  | 15 => some (.numeric 0 30)
  | 16 => some (.numeric 0 240)
  | _ => none

/-- The fields of the ROOM entry (R43). -/
def roomField (f : Nat) : Option FieldKind :=
  match f with
  | 0 => some (.numeric 0 240)
  | 1 => some (.numeric 1 120)
  | 2 => some (.numeric 0 60)
  | 3 => some .enumerated
  | 4 => some (.numeric 15 240)
  | 5 => some (.numeric 0 240)
  | _ => none

/-- The fields of a SECTION entry (R99, R167). -/
def sectionField (f : Nat) : Option FieldKind :=
  match f with
  | 0 => some (.numeric 0 4096)
  | 1 => some .enumerated
  | 2 => some (.numeric 0 127)
  | _ => none

/-- The fields of a CAMERA entry (R168). -/
def cameraField (f : Nat) : Option FieldKind :=
  match f with
  | 0 => some .enumerated
  | n => if n ≤ 3 then some .runtime else none

/-- The fields of a SCREEN entry (R169). -/
def screenField (f : Nat) : Option FieldKind :=
  match f with
  | 0 => some .enumerated
  | 1 => some .enumerated
  | 2 => some .enumerated
  | n => if n ≤ 5 then some .runtime else none

/-- The fields of a PROGRAM entry (R95). -/
def programField (f : Nat) : Option FieldKind :=
  match f with
  | 0 => some .enumerated
  | 1 => some (.numeric 0 4096)
  | _ => none

/-- Section 11.5: a field of a table; none: the field is not defined for it. -/
def fieldOf (t f : Nat) : Option FieldKind :=
  match t with
  | 0 => seatField f
  | 1 => profileField f
  | 2 => roomField f
  | 3 => sectionField f
  | 4 => cameraField f
  | 5 => screenField f
  | 6 => programField f
  | 7 => if f ≤ 7 then some .runtime else none
  | 8 => if f = 0 then some .runtime else none
  | _ => none

/-- R210: the enumerated field defines the value. -/
def definesValue (t f v : Nat) : Bool :=
  match t, f with
  | 0, 0 => (roleOf v).isSome
  | 0, 3 => (optOf 8 v).isSome
  | 0, 5 => (optOf 8 v).isSome
  | 1, 0 => (floorModeOf v).isSome
  | 1, 3 => (flagOf v).isSome
  | 1, 4 => (fullPolicyOf v).isSome
  | 1, 10 => (flagOf v).isSome
  | 1, 13 => (sharePermissionOf v).isSome
  | 2, 3 => (optOf 8 v).isSome
  | 3, 1 => (optOf 8 v).isSome
  | 4, 0 => (finOf 4 v).isSome
  | 5, 0 => (finOf 4 v).isSome
  | 5, 1 => (screenModeOf v).isSome
  | 5, 2 => (sourceOf v).isSome
  | 6, 0 => (homeOf v).isSome
  | _, _ => false

/-! ## Putting a posted value into its field (R201) -/

/-- A record of a vector changed at an index that may lie outside it. -/
def setAt {α : Type} {n : Nat} (v : Vector α n) (i : Nat) (f : α → α) : Vector α n :=
  if h : i < n then v.set i (f v[i]) else v

def putSeat (f v : Nat) (c : SeatConfig) : SeatConfig :=
  match f with
  | 0 => { c with role := (roleOf v).getD c.role }
  | 1 => { c with gain := v }
  | 2 => { c with volume := v }
  | 3 => { c with camera := (optOf 8 v).getD c.camera }
  | 4 => { c with preset := (finOf 128 v).getD c.preset }
  | 5 => { c with share := (optOf 8 v).getD c.share }
  | 6 => { c with nameplate := octet v }
  | _ => c

def putProfile (f v : Nat) (p : Profile) : Profile :=
  match f with
  | 0 => { p with mode := (floorModeOf v).getD p.mode }
  | 1 => { p with maxOpen := v }
  | 2 => { p with queueCap := v }
  | 3 => { p with autoAdvance := (flagOf v).getD p.autoAdvance }
  | 4 => { p with fullPolicy := (fullPolicyOf v).getD p.fullPolicy }
  | 5 => { p with speakLimit := v }
  | 6 => { p with limitWarning := v }
  | 7 => { p with silenceClose := v }
  | 8 => { p with talkThreshold := v }
  | 9 => { p with silenceThreshold := v }
  | 10 => { p with nom := (flagOf v).getD p.nom }
  | 11 => { p with duck := v }
  | 12 => { p with dwell := v }
  | 13 => { p with sharePermission := (sharePermissionOf v).getD p.sharePermission }
  | 14 => { p with grace := v }
  | 15 => { p with endingWarning := v }
  | 16 => { p with extensionLimit := v }
  | _ => p

def putRoom (f v : Nat) (r : RoomSettings) : RoomSettings :=
  match f with
  | 0 => { r with standbyLead := v }
  | 1 => { r with idleDelay := v }
  | 2 => { r with leadIn := v }
  | 3 => { r with adHocProfile := (optOf 8 v).getD r.adHocProfile }
  | 4 => { r with adHocDuration := v }
  | 5 => { r with lockedHorizon := v }
  | _ => r

def putSection (f v : Nat) (x : SectionConfig) : SectionConfig :=
  match f with
  | 0 => { x with feedLevel := v }
  | 1 => { x with overviewCamera := (optOf 8 v).getD x.overviewCamera }
  | 2 => { x with overviewPreset := (finOf 128 v).getD x.overviewPreset }
  | _ => x

def putScreen (f v : Nat) (x : ScreenConfig) : ScreenConfig :=
  match f with
  | 0 => { x with home := (finOf 4 v).getD x.home }
  | 1 => { x with mode := (screenModeOf v).getD x.mode }
  | 2 => { x with fixed := (sourceOf v).getD x.fixed }
  | _ => x

def putProgram (f v : Nat) (p : Program) : Program :=
  match f with
  | 0 => { p with home := (homeOf v).getD p.home }
  | 1 => { p with gain := v }
  | _ => p

/-- R201, step 1: a posted value is written into its configuration field. -/
def putPosted (cfg : Tables) (w : Posted) : Tables :=
  match w.table with
  | 0 => { cfg with seats := setAt cfg.seats w.index (putSeat w.field w.value) }
  | 1 => { cfg with profiles := setAt cfg.profiles w.index (putProfile w.field w.value) }
  | 2 => { cfg with room := putRoom w.field w.value cfg.room }
  | 3 => { cfg with sections := setAt cfg.sections w.index (putSection w.field w.value) }
  | 4 => { cfg with cameraHome := setAt cfg.cameraHome w.index (fun x => (finOf 4 w.value).getD x) }
  | 5 => { cfg with screens := setAt cfg.screens w.index (putScreen w.field w.value) }
  | 6 => { cfg with programs := setAt cfg.programs w.index (putProgram w.field w.value) }
  | _ => cfg

/-- R37, R201 step 2: a silence threshold above the talk threshold is lowered to it. -/
def lowerSilence (p : Profile) : Profile := { p with silenceThreshold := min p.silenceThreshold p.talkThreshold }

/-! ## The value of an accepted WRITE (R37, R199) -/

/-- R37: the talk threshold of a profile as it will stand at the next apply point. -/
def postedTalk (s : State) (i : Nat) : Nat :=
  match s.mgmt.posted.reverse.find? (fun w => w.table == 1 && w.index == i && w.field == 8) with
  | some w => w.value
  | none => (s.cfg.profiles.toList.map (·.talkThreshold)).getD i 0

/-- R37: the further checks of the extension limit and the silence threshold. -/
def furtherLimit (s : State) (t i f v : Nat) : Nat :=
  if t = 1 ∧ f = 16 then v / 15 * 15
  else if t = 1 ∧ f = 9 then min v (postedTalk s i)
  else v

/-- R199: the checks of a WRITE in their order: the status of a refusal, or the value to post. -/
def writeCheck (s : State) (t i f v : Nat) : Except Status Nat :=
  match tableEntries t with
  | none => .error .badTable
  | some n =>
    if readOnlyTable t then .error .readOnly
    else if n ≤ i then .error .badIndex
    else match fieldOf t f with
      | none => .error .badField
      | some .runtime => .error .readOnly
      | some .enumerated =>
        if !definesValue t f v then .error .badValue
        else if Config.postedLimit ≤ s.mgmt.posted.length then .error .busy
        else .ok v
      | some (.numeric lo hi) =>
        if Config.postedLimit ≤ s.mgmt.posted.length then .error .busy
        else .ok (furtherLimit s t i f (max lo (min hi v)))

/-! ## The fields of a READ (R198, R45, R132, 11.5) -/

/-- Section 11.3: room time in three octets. -/
def roomTimeOctets (s : State) : List Octet :=
  twoOctets s.cal.minute ++ [octet (128 * flagCode s.cal.valid + s.cal.second)]

/-- A record of a vector at an index that may lie outside it. -/
def getAt {α : Type} {n : Nat} (v : Vector α n) (i : Nat) : Option α := if h : i < n then some v[i] else none

/-- The fields of a SEAT entry (11.5). -/
def seatOctets (s : State) (i : SeatId) : List (List Octet) :=
  let c := s.cfg.seats[i]
  let x := s.seats[i]
  [[octet (roleCode c.role)], twoOctets c.gain, twoOctets c.volume, [octet (optCode c.camera)], [octet c.preset.val],
    [octet (optCode c.share)], [c.nameplate], [octet (flagCode x.present)], [octet (seatKindCode x.kind)],
    [octet (micCode x.mic)], twoOctets x.gate, twoOctets x.env, [octet (queuePosition s i)], twoOctets x.speakSecs,
    [octet x.silence], [octet (noticeCode (noticeOf s i))]]

/-- The fields of a PROFILE entry (11.5). -/
def profileOctets (p : Profile) : List (List Octet) :=
  [[octet (floorModeCode p.mode)], [octet p.maxOpen], [octet p.queueCap], [octet (flagCode p.autoAdvance)],
    [octet (fullPolicyCode p.fullPolicy)], twoOctets p.speakLimit, twoOctets p.limitWarning, [octet p.silenceClose],
    twoOctets p.talkThreshold, twoOctets p.silenceThreshold, [octet (flagCode p.nom)], twoOctets p.duck, [octet p.dwell],
    [octet (sharePermissionCode p.sharePermission)], [octet p.grace], [octet p.endingWarning], [octet p.extensionLimit]]

/-- The fields of the ROOM entry (11.5). -/
def roomOctets (r : RoomSettings) : List (List Octet) :=
  [[octet r.standbyLead], [octet r.idleDelay], [octet r.leadIn], [octet (optCode r.adHocProfile)], [octet r.adHocDuration],
    [octet r.lockedHorizon]]

/-- The fields of a SECTION entry (11.5). -/
def sectionOctets (x : SectionConfig) : List (List Octet) :=
  [twoOctets x.feedLevel, [octet (optCode x.overviewCamera)], [octet x.overviewPreset.val]]

/-- The fields of a CAMERA entry (11.5); the state is MOVING while a RECALL for the camera is in flight (R168). -/
def cameraOctets (s : State) (c : CameraId) : List (List Octet) :=
  let x := s.video.cameras[c]
  let moving := s.video.inFlight.any fun d => targetOfDirective d.directive == .camera c
  [[octet s.cfg.cameraHome[c].val], [octet (optCode x.preset)], [octet (flagCode moving)], [octet (flagCode x.unresponsive)]]

/-- The fields of a SCREEN entry (11.5). -/
def screenOctets (s : State) (k : ScreenId) : List (List Octet) :=
  let c := s.cfg.screens[k]
  let x := s.video.screens[k]
  [[octet c.home.val], [octet (screenModeCode c.mode)], twoOctets (sourceCode c.fixed), twoOctets (sourceCode x.current),
    [octet (flagCode x.power)], [octet (flagCode x.unresponsive)]]

/-- The fields of a PROGRAM entry (11.5). -/
def programOctets (p : Program) : List (List Octet) := [[octet (homeCode p.home)], twoOctets p.gain]

/-- Section 11.5, field 3 of a BOOKING entry. -/
def rangeAndMarks (s : State) (b : Booking) : Nat :=
  64 * b.first.val + 16 * b.last.val + 4 * flagCode (b.recurrence == .weekly) + 2 * flagCode (b.origin == .adHoc) +
    flagCode (isLocked s b)

/-- FREE VALUES: the end of an open-end booking, which has none (R127), as two octets (assumption 20). -/
def freeEnd (s : State) : List Octet := [Config.freeOctet s.fresh, Config.freeOctet (s.fresh + 1)]

/-- The fields of a BOOKING entry (11.5). -/
def bookingOctets (s : State) (b : Booking) : List (List Octet) :=
  [[octet (16 * bookingStateCode b.state + b.profile.val)], twoOctets b.start, twoOctets b.duration,
    [octet (rangeAndMarks s b)], [b.title], [octet b.extension], if isOpenEnd b then freeEnd s else twoOctets (endOf b),
    roomTimeOctets s]

/-- The fields of an entry of a table; none: the entry does not exist, or the slot is empty. -/
def entryOctets (s : State) (t i : Nat) : Option (List (List Octet)) :=
  match t with
  | 0 => (finOf 64 i).map (seatOctets s)
  | 1 => (getAt s.cfg.profiles i).map profileOctets
  | 2 => some (roomOctets s.cfg.room)
  | 3 => (getAt s.cfg.sections i).map sectionOctets
  | 4 => (finOf 8 i).map (cameraOctets s)
  | 5 => (finOf 8 i).map (screenOctets s)
  | 6 => (getAt s.cfg.programs i).map programOctets
  | 7 => ((getAt s.cal.slots i).bind id).map (bookingOctets s)
  | 8 => (getAt s.mix.clips i).map fun n => [twoOctets n]
  | _ => none

/-- R198: as many whole fields as the space left holds. -/
def wholeFields : Nat → List (List Octet) → List (List Octet)
  | _, [] => []
  | room, f :: rest => if f.length ≤ room then f :: wholeFields (room - f.length) rest else []

/-- R198, section 11.3: the data of a READ reply: the number of fields carried, then the fields. -/
def readData (fields : List (List Octet)) : Vector Octet 14 :=
  let carried := wholeFields 13 fields
  padded 14 (octet carried.length :: carried.flatten)

/-- R198: the checks of a READ in their order, and the fields from the first one named. -/
def readCheck (s : State) (t i f : Nat) : Except Status (List (List Octet)) :=
  match tableEntries t with
  | none => .error .badTable
  | some n =>
    if n ≤ i then .error .badIndex
    else match fieldOf t f with
      | none => .error .badField
      | some _ =>
        match entryOctets s t i with
        | none => .error .notFound
        | some fields => .ok (fields.drop f)

end Sys2Proof.Machine
end

