-- ==== Sys2Proof/Machine/Apply.lean ====
section
/-! DEFINITION. Apply points (R200, R201): the posted writes take effect, and each block takes its hand-over: the Floor
Controller (R40, R41, R71, R72), the Screen Director (R23, R171, R179) and the Standby Controller (R159). -/

namespace Sys2Proof.Machine

open Sys2Proof

/-! ## The Floor Controller's hand-over -/

/-- R66, R71: to LISTENER; a holder leaves the holders whatever its mic state. -/
def roleToListener (r : SectionId) (i : SeatId) (s : State) : State :=
  if s.seats[i].mic = .waiting then withdraw r i (dropHolder r i s)
  else closeSeat r i (dropHolder r i s)

/-- R71: DELEGATE to CHAIR. -/
def delegateToChair (r : SectionId) (i : SeatId) (s : State) : State :=
  if s.seats[i].mic = .waiting then withdraw r i s
  else modSeat i (fun x => { x with limitWarning := false }) s

/-- R71: CHAIR to DELEGATE. -/
def chairToDelegate (r : SectionId) (i : SeatId) (s : State) : State :=
  if (s.seats[i].mic = .opening ∨ s.seats[i].mic = .on) ∧ s.floors[r].state = .priority ∧ i ∉ s.floors[r].holders then
    setMic i .suspended s
  else s

/-- R71: the row of the table for one seat whose role changed. -/
def roleRow (r : SectionId) (old : Tables) (i : SeatId) (s : State) : State :=
  match old.seats[i].role, s.cfg.seats[i].role with
  | _, .listener => roleToListener r i s
  | .delegate, .chair => delegateToChair r i s
  | .chair, .delegate => chairToDelegate r i s
  | _, _ => s

/-- R41: the emptying or trimming of the queue. -/
def fitQueue (r : SectionId) (p : Profile) (s : State) : State :=
  if p.mode = .voice then emptyQueue r s
  else forEach ((s.floors[r].queue.drop p.queueCap).reverse) (withdraw r) s

/-- R40: a warning of the old values that the new ones do not give is lost. -/
def dropWarning (p : Profile) (i : SeatId) (s : State) : State :=
  if s.seats[i].limitWarning && !(warns p && warningPoint p ≤ s.seats[i].speakSecs) then
    modSeat i (fun x => { x with limitWarning := false }) s
  else s

/-- R40: the speak limit or the limit warning of a profile changed. -/
def limitChanged (o p : Profile) : Bool := o.speakLimit != p.speakLimit || o.limitWarning != p.limitWarning

/-- R40, R71: the limit test of one open non-chair seat. It reaches seats in ON or SUSPENDED alone: all of them when the profile's
limit or warning changed, and else those that count by their change of role. -/
def limitAtApply (r : SectionId) (o p : Profile) (changed : List SeatId) (i : SeatId) (s : State) : State :=
  if s.seats[i].mic = .on ∨ s.seats[i].mic = .suspended then
    if limitChanged o p then limitTest r i p (dropWarning p i s)
    else if i ∈ changed then limitTest r i p s
    else s
  else s

/-- R40: with a changed silence close, a seat whose silence duration stands at or above the silence close time closes. A close time
that a change of the floor mode gives is taken as a changed one (assumption 35). -/
def silenceAtApply (r : SectionId) (o p : Profile) (i : SeatId) (s : State) : State :=
  if silenceTime o ≠ silenceTime p ∧ silenceTime p ≠ 0 ∧ silenceTime p ≤ s.seats[i].silence then closeSeat r i s else s

/-- R71: the role changes, and the change of the profile from `o` to `p`, of one floor in session, as one change, up to the
auto-advance test. The limit test and the silence close go through the open set, oldest admission first (assumption 33). -/
def fitFloor (r : SectionId) (old : Tables) (changed : List SeatId) (o p : Profile) (s : State) : State :=
  let s := fitQueue r p (forEach changed (roleRow r old) s)
  let s := forEach (openNonChairs s r) (limitAtApply r o p changed) s
  let s := forEach (openNonChairs s r) (silenceAtApply r o p) s
  let s := resumeIfFree r s
  closeExcess r p.maxOpen s.floors[r].openSet.length s

/-- The seats whose role an apply point changed. -/
def roleChanged (old : Tables) (s : State) : List SeatId :=
  allSeats.filter fun i => old.seats[i].role != s.cfg.seats[i].role

/-- R63: chairs keep the silence duration 0. -/
def quietChair (i : SeatId) (s : State) : State :=
  if s.cfg.seats[i].role = .chair then modSeat i (fun x => { x with silence := 0, silencePart := 0 }) s else s

/-- The hand-over at one floor: it acts at a floor in session whose seats' roles or whose profile changed. -/
def floorHandOver (old : Tables) (r : SectionId) (s : State) : State :=
  let changed := (roleChanged old s).filter fun i => roomOfSeat s i == r
  match s.floors[r].profile with
  | none => s
  | some n =>
    let p := s.cfg.profiles[n]
    if (s.floors[r].state = .normal ∨ s.floors[r].state = .priority) ∧ (changed ≠ [] ∨ old.profiles[n] ≠ p) then
      floorEvent r (fitFloor r old changed old.profiles[n] p) s
    else s

/-- The Floor Controller's hand-over, floor by floor. -/
def floorsHandOver (old : Tables) (s : State) : State :=
  forEach allSections (floorHandOver old) (forEach (roleChanged old s) quietChair s)

/-! ## The Screen Director's hand-over -/

/-- R181: a share whose owner's share input changed ends. -/
def sharesHandOver (old : Tables) (s : State) : State :=
  forEach allSeats (fun i t => if old.seats[i].share ≠ s.cfg.seats[i].share then endShareOf i t else t) s

/-- R179: the candidate's camera or preset, a camera's home section, or the overview shot of the room's first section
changed. -/
def shotChanged (old : Tables) (s : State) (r : SectionId) : Bool :=
  old.cameraHome != s.cfg.cameraHome ||
    old.sections[r].overviewCamera != s.cfg.sections[r].overviewCamera ||
    old.sections[r].overviewPreset != s.cfg.sections[r].overviewPreset ||
    s.video.follow[r].candidate.any fun i =>
      old.seats[i].camera != s.cfg.seats[i].camera || old.seats[i].preset != s.cfg.seats[i].preset

/-- R179: a candidate change with the same candidate. -/
def shotHandOver (old : Tables) (r : SectionId) (s : State) : State :=
  if isRoom s.planner.active r && shotChanged old s r then candidateChange r s.video.follow[r].candidate s else s

/-- R171: a screen whose configuration changed is reconciled. -/
def screenHandOver (old : Tables) (k : ScreenId) (s : State) : State :=
  if old.screens[k] ≠ s.cfg.screens[k] then reconcile k s else s

/-- The Screen Director's hand-over: the ended shares, then the shots room by room, then the changed screens (assumption 38). -/
def screensHandOver (old : Tables) (s : State) : State :=
  forEach allScreens (screenHandOver old) (forEach allSections (shotHandOver old) (sharesHandOver old s))

/-! ## The apply point -/

/-- R159: an apply point that changes the standby lead or the idle delay tests the entry conditions. -/
def standbyHandOver (old : Tables) (s : State) : State :=
  if old.room.standbyLead ≠ s.cfg.room.standbyLead ∨ old.room.idleDelay ≠ s.cfg.room.idleDelay then standbyTest s else s

/-- R201, steps 1 and 2: the tables after the posted writes. -/
def tablesAfter (cfg : Tables) (posted : List Posted) : Tables :=
  let cfg := posted.foldl putPosted cfg
  { cfg with profiles := Vector.ofFn fun n : ProfileId => lowerSilence cfg.profiles[n] }

/-- R201, step 3: the posted write queue is emptied and the timer stopped. -/
def clearPosted (m : Mgmt) : Mgmt := { m with posted := [], applyTimer := none, applyFresh := false }

/-- R201, steps 1 to 3. -/
def takePosted (s : State) : State :=
  modMgmt clearPosted { s with cfg := tablesAfter s.cfg s.mgmt.posted }

/-- R200, R201: an apply point. With an empty queue nothing happens, and the timer is stopped. -/
def applyPoint (s : State) : State :=
  if s.mgmt.posted = [] then modMgmt clearPosted s
  else standbyHandOver s.cfg (screensHandOver s.cfg (floorsHandOver s.cfg (takePosted s)))

end Sys2Proof.Machine
end

