-- ==== Sys2Proof/Decode.lean ====
section
/-! DEFINITION. Decoding: the command a table word spells (none: no row of the table gives bits), and the decoders of what
the part receives on its wires: seat replies (R4), media replies (R188) and request cells (R196, R209). -/

namespace Sys2Proof

open Sys2Proof.Machine

/-- The command that a word spells by the table's bits. No row of spec/opcode_table.json gives bits: the commands of this part
are events on its wires and requests in cells, so no word spells one. -/
def decodeTableWord (_nbits _w : Nat) : Option Instr := none

/-! ## Seat replies -/

/-- A valid reply of a seat in its turn (R4). -/
inductive SeatReply where
  | hello (kind : SeatKind)
  | key (event : KeyEvent)
  | quiet
  deriving DecidableEq, Repr

/-- Section 11.2: the reply in the octets of an upstream cell whose check is correct. -/
def replyOfOctets (kind first second : Nat) : Option SeatReply :=
  match kind with
  | 1 => (seatKindOf first).map .hello
  | 2 => match keyOf first, keyActionOf second with
    | some k, some a => some (.key ⟨k, a⟩)
    | _, _ => none
  | 3 => some .quiet
  | _ => none

/-- R4: a valid reply needs all eight octets, a correct check octet, a defined kind, and defined contents; none: a missed
turn. -/
def decodeSeatReply (up : List Octet) : Option SeatReply :=
  if up.length = 8 ∧ checkHolds up then
    replyOfOctets (up.getD 0 0).toNat (up.getD 1 0).toNat (up.getD 2 0).toNat
  else none

/-! ## Media replies -/

/-- R188, section 11.4: a message from the media equipment, as the command it is; none: it is discarded. -/
def decodeMediaReply (m : Vector Octet 8) : Option Instr :=
  if checkHolds m.toList then
    match targetOf m[1].toNat, m[0].toNat with
    | some t, 0x81 => some (.done t)
    | some t, 0x82 => some (.fail t)
    | _, _ => none
  else none

/-! ## Request cells -/

/-- Parameters of BOOK ADD and BOOK CHANGE from an octet of the cell on (section 11.3). -/
def bookingParamsAt (at' : Nat) (c : List Octet) : BookingParams :=
  let o := fun n => c.getD (at' + n) 0
  ⟨o 0 ++ o 1, o 2 ++ o 3, o 4, o 5, o 6, o 7, o 8⟩

/-- R209: a request code names a request. -/
def isRequestCode (code : Nat) : Bool := 1 ≤ code && code ≤ 0x17

/-- R209: the request of a request cell, by its code; an undefined code gives the command of R196's BAD_REQUEST. -/
def decodeRequest (cell : List Octet) : Instr :=
  let code := cell.getD 1 0
  let tag := cell.getD 2 0
  let p := fun n => cell.getD (3 + n) 0
  match code.toNat with
  | 0x01 => .read tag (p 0) (p 1) (p 2)
  | 0x02 => .write tag (p 0) (p 1) (p 2) (p 3 ++ p 4)
  | 0x03 => .apply tag
  | 0x04 => .clockSet tag (p 0 ++ p 1) (p 2)
  | 0x05 => .bookAdd tag (bookingParamsAt 3 cell)
  | 0x06 => .bookChange tag (p 0) (bookingParamsAt 4 cell)
  | 0x07 => .bookCancel tag (p 0)
  | 0x08 => .bookExtend tag (p 0)
  | 0x09 => .bookEnd tag (p 0)
  | 0x0A => .dividerReport tag (p 0) (p 1) (p 2)
  | 0x0B => .seatOpen tag (p 0)
  | 0x0C => .seatClose tag (p 0)
  | 0x0D => .seatEnqueue tag (p 0)
  | 0x0E => .seatDequeue tag (p 0)
  | 0x0F => .floorClear tag (p 0)
  | 0x10 => .followHold tag (p 0)
  | 0x11 => .followRelease tag (p 0)
  | 0x12 => .followReset tag (p 0)
  | 0x13 => .lineStart tag (p 0)
  | 0x14 => .lineStop tag (p 0)
  | 0x15 => .wake tag
  | 0x16 => .clearClips tag
  | 0x17 => .reset tag
  | _ => .badRequest tag code

/-- R195, R209: the request that a received inbound cell carries; only the kind REQUEST, in the high half of octet 0, is one. -/
def decodeCell (cell : List Octet) : Option Instr :=
  if (cell.getD 0 0).toNat / 16 = 1 then some (decodeRequest cell) else none

end Sys2Proof
end

