-- ==== Sys2Proof/Machine/Lines.lean ====
section
/-! DEFINITION. The line units (chapter 1): presence, line states, seat replies and turns, and frames that return. -/

namespace Sys2Proof.Machine

open Sys2Proof

/-! ## Seats lost and found (R5 to R7) -/

/-- R6, R34, R88, R92: the line unit, the Seat Table and the Mix Engine take the loss of a seat. -/
def lostRecord (x : Seat) : Seat :=
  { x with present := false, missCount := 0, latch := none, overrun := false, denied := none, gate := 0, env := 0, loud := 0 }

/-- R6: a seat of those lost becomes ABSENT, with its PRESENCE event. -/
def markLost (i : SeatId) (s : State) : State := raiseEvent .presence i.val 0 (modSeat i lostRecord s)

/-- R70: the floor takes the losses of one room as one change. -/
def floorLosses (r : SectionId) (is : List SeatId) (s : State) : State :=
  floorEvent r (fun t => resumeIfFree r (forEach is (floorLose r) t)) s

/-- R6: seats of one line are lost together. The Screen Director follows the change of floor speaker before it ends their shares
(assumption 38). -/
def loseSeats (l : SectionId) (is : List SeatId) (s : State) : State :=
  let lost := is.filter fun i => s.seats[i].present
  if lost = [] then s
  else forEach lost endShareOf (floorLosses (roomOfSection s.planner.active l) lost (forEach lost markLost s))

/-- R7, R35: the runtime record of a seat just found. -/
def foundRecord (kind : SeatKind) (x : Seat) : Seat :=
  { x with
    present := true, kind := kind, missCount := 0, identify := false, denied := none, limitWarning := false,
    gate := 0, env := 0, loud := 0 }

/-- R7: a seat is found; the PRESENCE event carries the seat kind in its second value octet. -/
def findSeat (i : SeatId) (kind : SeatKind) (s : State) : State :=
  let s := setMic i .off (modSeat i (foundRecord kind) s)
  modMgmt (queueEvent ⟨.presence, octet i.val, 1, octet (seatKindCode kind)⟩) s

/-! ## Line states (R11 to R16) -/

/-- R11: a line takes a state; a change raises a LINE event. -/
def setLineState (l : SectionId) (x : LineState) (s : State) : State :=
  if s.lines[l].state = x then s
  else raiseEvent .line l.val (lineStateCode x) (modLine l (fun u => { u with state := x }) s)

/-- R12, R14, R15: the identify indications of a line are cleared. -/
def clearIdentify (l : SectionId) (s : State) : State :=
  forEach (seatsOf l) (fun i => modSeat i fun x => { x with identify := false }) s

/-- Every PRESENT seat of a line is lost, and its identify indications are cleared. -/
def dropLine (l : SectionId) (s : State) : State := clearIdentify l (loseSeats l (seatsOf l) s)

/-- R12: the line unit as an enumeration begins; the first superframe to begin is the first of it, so the superframe in
progress is no turn. -/
def enumerateUnit (u : LineUnit) : LineUnit :=
  { u with
    retry := none, monitor := 0, enumCount := 0, turn := 0, turnNow := false, judged := false, up := [],
    down := noPositionCell }

/-- R12, R16: a line enters ENUMERATING. -/
def lineStart (l : SectionId) (s : State) : State := setLineState l .enumerating (modLine l enumerateUnit (dropLine l s))

/-- A line unit that sends no frames (R1). -/
def silentUnit (u : LineUnit) : LineUnit :=
  { u with
    turnNow := false, judged := false, up := [], down := noPositionCell, awaiting := false, sent := none,
    mic := Vector.replicate 16 0 }

/-- R14: LINE STOP; a line already STOPPED changes nothing. -/
def lineStop (l : SectionId) (s : State) : State :=
  if s.lines[l].state = .stopped then s
  else setLineState l .stopped (modLine l (fun u => { silentUnit u with retry := none }) (dropLine l s))

/-- R15: a line fault. -/
def lineFault (l : SectionId) (s : State) : State :=
  setLineState l .fault (modLine l (fun u => { silentUnit u with monitor := 0, retry := some 0 }) (dropLine l s))

/-- R13, R17: the end of an enumeration; turns continue with position 0, and slow poll would begin with a turn superframe. Inside a
superframe the turn in progress is dropped unjudged, and its seat state cell goes on (assumption 32). -/
def enumerationOver (l : SectionId) (s : State) : State :=
  setLineState l .running (modLine l (fun u => { u with
    enumCount := Config.enumerationLength, turn := 0, turnNow := false, judged := false, up := [], pollPhase := 0 }) s)

/-! ## Replies in a turn (R5 to R10) -/

/-- R7, R9: a valid HELLO. -/
def seatHello (i : SeatId) (kind : SeatKind) (s : State) : State :=
  let l := sectionOf i
  if !s.seats[i].present then findSeat i kind s
  else if s.lines[l].state = .running ∨ s.seats[i].kind ≠ kind then findSeat i kind (loseSeats l [i] s)
  else modSeat i (fun x => { x with missCount := 0 }) s

/-- R8: a KEY or QUIET from an ABSENT position. -/
def seatUnknown (i : SeatId) (s : State) : State :=
  if s.lines[sectionOf i].state = .running then modSeat i (fun x => { x with identify := true }) s else s

/-- R8, R10: a valid KEY. -/
def seatKey (i : SeatId) (e : KeyEvent) (s : State) : State :=
  if s.seats[i].present then
    let s := modSeat i (fun x => { x with missCount := 0 }) s
    if s.lines[sectionOf i].state = .running then keyArrives i e s else s
  else seatUnknown i s

/-- R8, R10: a valid QUIET. -/
def seatQuiet (i : SeatId) (s : State) : State :=
  if s.seats[i].present then modSeat i (fun x => { x with missCount := 0 }) s else seatUnknown i s

/-- R5: a missed turn. -/
def seatMissed (i : SeatId) (s : State) : State :=
  if !s.seats[i].present then s
  else if s.seats[i].missCount + 1 < Config.missLimit then modSeat i (fun x => { x with missCount := x.missCount + 1 }) s
  else loseSeats (sectionOf i) [i] s

/-- What a turn gave: a valid reply, or a missed turn (R4). -/
def seatTurn (i : SeatId) (reply : Option SeatReply) (s : State) : State :=
  match reply with
  | some (.hello kind) => seatHello i kind s
  | some (.key e) => seatKey i e s
  | some .quiet => seatQuiet i s
  | none => seatMissed i s

/-- The turn of a position, when it is in progress, has been judged. -/
def markJudged (i : SeatId) (s : State) : State :=
  modLine (sectionOf i) (fun u => if u.turnNow && u.turn == positionOf i then { u with judged := true } else u) s

/-- A reply, or a missed turn, of a seat, as the row of its kind gives it; it reaches only a line that judges turns. -/
def replyArrives (i : SeatId) (reply : Option SeatReply) (s : State) : State :=
  if isPolled s.lines[sectionOf i] then seatTurn i reply (markJudged i s) else s

/-! ## Superframes (R3, R4, R13, R17) -/

/-- R4: at the end of a turn superframe, a turn not judged yet is judged from the octets that came back. -/
def judgeTurn (l : SectionId) (s : State) : State :=
  let u := s.lines[l]
  if u.judged then s else seatTurn (seatAt l u.turn) (decodeSeatReply u.up) s

/-- R3, R13: the turn position advances at the end of a turn superframe, and the enumeration count with it. -/
def advanceTurn (l : SectionId) (s : State) : State :=
  let s := modLine l (fun u => { u with turn := u.turn + 1, turnNow := false }) s
  if s.lines[l].state = .enumerating then
    let s := modLine l (fun u => { u with enumCount := u.enumCount + 1 }) s
    if s.lines[l].enumCount < Config.enumerationLength then s else enumerationOver l s
  else s

/-- The end of a superframe on one line. -/
def lineSuperframeEnd (l : SectionId) (s : State) : State :=
  if isPolled s.lines[l] && s.lines[l].turnNow then advanceTurn l (judgeTurn l s) else s

/-- R17: the superframe that begins is a turn superframe of the line. -/
def givesTurn (room : RoomState) (u : LineUnit) : Bool :=
  match u.state with
  | .enumerating => true
  | .running => room != .standby || u.pollPhase == 0
  | _ => false

/-- R3, R31: the line unit as a superframe begins: its cell, and whose turn it is. -/
def beginUnit (s : State) (l : SectionId) (u : LineUnit) : LineUnit :=
  let turnNow := givesTurn s.standby.room u
  { u with
    turnNow := turnNow
    judged := false
    up := []
    down := if turnNow then seatCell s (seatAt l u.turn) else noPositionCell
    pollPhase := if s.standby.room = .standby ∧ u.state = .running then u.pollPhase + 1 else u.pollPhase }

/-- The beginning of a superframe on all four lines, from the state in force as it begins. -/
def lineSuperframeBegin (s : State) : State :=
  { s with lines := Vector.ofFn fun l : SectionId => beginUnit s l s.lines[l] }

/-! ## Frames (R1, R2, R15) -/

/-- R2: the microphone samples handed to the Mix Engine from a frame that returned valid: those of the seats that are PRESENT as it
returns. A seat found after that and before the computation has sample 0 in it (assumption 41). -/
def micSamples (s : State) (l : SectionId) (f : LineIn) : Vector Sample 16 :=
  Vector.ofFn fun p : Position => if isLive s (seatAt l p) then f.slots[p] else 0

/-- R1, R2, R15: a frame returns valid. -/
def frameValid (l : SectionId) (f : LineIn) (s : State) : State :=
  let mic := micSamples s l f
  modLine l (fun u => { u with awaiting := false, monitor := 0, mic := mic, up := u.up ++ [f.cell] }) s

/-- R4, R15: a turn superframe whose last frame makes the fault is over, and its turn is a missed turn before the fault. -/
def judgeLastTurn (l : SectionId) (s : State) : State :=
  let u := s.lines[l]
  if s.trunk.frameIndex = Config.framesPerSuperframe ∧ u.turnNow = true ∧ u.judged = false then seatMissed (seatAt l u.turn) s
  else s

/-- R15: the return monitor of a line has reached 64. -/
def monitorFull (l : SectionId) (s : State) : State := lineFault l (judgeLastTurn l s)

/-- R1, R2, R15: a frame returns invalid; the 64th in a row makes a line fault. -/
def frameInvalid (l : SectionId) (s : State) : State :=
  let s := modLine l (fun u => { u with awaiting := false, monitor := u.monitor + 1, mic := Vector.replicate 16 0 }) s
  if s.lines[l].monitor < Config.monitorLimit then s else monitorFull l s

/-- A frame's return to a line-in pair; a line that sends no frames takes none. -/
def frameReturns (l : SectionId) (f : Option LineIn) (s : State) : State :=
  if isPolled s.lines[l] then
    match f with
    | some f => frameValid l f s
    | none => frameInvalid l s
  else s

/-- R1: the frame a line sends: the loudspeaker samples of its live seats and one octet of the downstream cell. -/
def lineFrame (s : State) (l : SectionId) (k : Nat) : LineOut :=
  ⟨Vector.ofFn fun p : Position => if isLive s (seatAt l p) then s.seats[seatAt l p].loud else 0,
    s.lines[l].down.toList.getD k 0⟩

/-- R1: each line that is ENUMERATING or RUNNING sends the frame of place `k` in the superframe. -/
def sendLineFrames (k : Nat) (s : State) : State :=
  { s with lines := Vector.ofFn fun l : SectionId =>
      if isPolled s.lines[l] then { s.lines[l] with sent := some (lineFrame s l k), awaiting := true }
      else { s.lines[l] with sent := none, awaiting := false } }

/-- R1: a frame that has not come back when the next is sent has returned invalid. -/
def overdueFrames (s : State) : State :=
  forEach allSections (fun l t => if t.lines[l].awaiting then frameReturns l none t else t) s

end Sys2Proof.Machine
end

