-- ==== Sys2Proof/Machine/Requests.lean ====
section
/-! DEFINITION. The requests (10.4, 10.5, 10.8): replies, the Management Unit's own requests, and what each request does at the
block that owns it. An operation here is the request's handling, its apply point included. -/

namespace Sys2Proof.Machine

open Sys2Proof

/-! ## Replies (R196, R204) -/

/-- A reply is put into the reply store. -/
def answer (tag : Octet) (status : Status) (data : List Octet) (s : State) : State :=
  modMgmt (fun m => { m with reply := some ⟨tag, status, padded 14 data⟩ }) s

/-- The reply data of booking requests: the slot, its state or EMPTY, and room time (R144, 11.3). -/
def bookingData (s : State) (slot : Nat) (b : Option Booking) : List Octet :=
  [octet slot, octet (slotStateCode b)] ++ roomTimeOctets s

/-- FREE VALUES: the slot and state octets of the reply to a refused BOOK ADD, which concerns no slot (assumption 20). -/
def noSlotData (s : State) : List Octet :=
  [Config.freeOctet s.fresh, Config.freeOctet (s.fresh + 1)] ++ roomTimeOctets s

/-- Two free values are used. -/
def takeTwo (s : State) : State := takeFresh (takeFresh s)

def planOctet (p : Option Plan) : Octet :=
  match p with
  | none => 0xFF
  | some p => octet (planCode p)

/-- The reply data of DIVIDER REPORT (R111, 11.3). -/
def plannerData (s : State) : List Octet :=
  [planOctet (some s.planner.active), octet (replanStateCode s.planner.state), planOctet s.planner.target,
    planOctet s.planner.pendingPlan]

/-- A shot in two octets; none is FFh FFh (11.3). -/
def shotOctets (x : Option Shot) : List Octet :=
  match x with
  | none => [0xFF, 0xFF]
  | some x => [octet x.camera.val, octet x.preset.val]

/-- The reply data of the FOLLOW requests (R182, 11.3). -/
def followData (s : State) (r : SectionId) : List Octet :=
  let f := s.video.follow[r]
  [octet (followStateCode f.state), octet (optCode f.candidate)] ++ shotOctets f.shown ++ shotOctets f.awaited

/-! ## The Management Unit's own requests (R196, R198, R199, R204) -/

/-- R196: a request code that names no request. -/
def doBadRequest (tag : Octet) (s : State) : State := answer tag .badRequest [] s

/-- R198: READ. The free values of a BOOKING entry count as used when the reply carries an open-end booking's end. -/
def doRead (tag table index field : Octet) (s : State) : State :=
  let s := applyPoint s
  match readCheck s table.toNat index.toNat field.toNat with
  | .error e => answer tag e [] s
  | .ok fields =>
    let s' := answer tag .ok (readData fields).toList s
    if table = 7 then takeTwo s' else s'

/-- R199: a WRITE that passes is posted, and the apply timer starts again. -/
def post (w : Posted) (m : Mgmt) : Mgmt :=
  { m with posted := m.posted ++ [w], applyTimer := some 0, applyFresh := true }

/-- R199: WRITE. -/
def doWrite (tag table index field : Octet) (value : Half) (s : State) : State :=
  match writeCheck s table.toNat index.toNat field.toNat value.toNat with
  | .error e => answer tag e [] s
  | .ok v =>
    answer tag (if v = value.toNat then .ok else .clamped) []
      (modMgmt (post ⟨table.toNat, index.toNat, field.toNat, v⟩) s)

/-- R204: APPLY. -/
def doApply (tag : Octet) (s : State) : State := answer tag .ok [] (applyPoint s)

/-! ## The Booking Calendar's requests -/

/-- R153: an open-end booking in PENDING or a session state takes a start and a length. -/
def giveLength (minute : Nat) (k : SlotId) (s : State) : State :=
  match s.cal.slots[k] with
  | none => s
  | some b =>
    if isOpenEnd b && (b.state == .pending || isSession b.state) then
      putBooking k (some { b with start := minute, duration := s.cfg.room.adHocDuration }) s
    else s

/-- R126, R153, R154: room time is set; the calendar handles the jump and evaluates. -/
def setClock (minute second : Nat) (s : State) : State :=
  let slots := s.cal.slots
  let old := if s.cal.valid then some s.cal.minute else none
  let s := if s.cal.valid then s else forEach allSlots (giveLength minute) s
  let s := modCal (fun c => { c with valid := true, minute := minute, second := second, frame := 0 }) s
  evaluateFrom (.jump old) slots s

/-- R126, R203: CLOCK SET. -/
def doClockSet (tag : Octet) (minute : Half) (second : Octet) (s : State) : State :=
  let s := applyPoint s
  if 10079 < minute.toNat ∨ 59 < second.toNat then answer tag .badValue [] s
  else
    let s := setClock minute.toNat second.toNat s
    answer tag .ok (roomTimeOctets s) s

/-- R145, step 2: the fields of a request as a booking with its duration still unlimited; none: BAD_VALUE. -/
def bookingOf (q : BookingParams) : Option Booking :=
  match finOf 4 q.first.toNat, finOf 4 q.last.toNat, finOf 8 q.profile.toNat, recurrenceOf q.recurrence.toNat with
  | some first, some last, some p, some rec =>
    if q.start.toNat ≤ 10079 ∧ first ≤ last then
      some ⟨.scheduled, q.start.toNat, q.duration.toNat, first, last, p, rec, .scheduled, q.title, 0⟩
    else none
  | _, _, _, _ => none

/-- R145, step 3: the duration limited to 15–720. -/
def limitDuration (d : Nat) : Nat := max 15 (min 720 d)

/-- R145, R146: the status of a request that is taken. -/
def takenStatus (q : BookingParams) : Status :=
  if limitDuration q.duration.toNat = q.duration.toNat then .ok else .clamped

/-- R145: the checks of BOOK ADD in their order: the status of a refusal, or the slot and the record. -/
def addCheck (s : State) (q : BookingParams) : Except Status (SlotId × Booking) :=
  if !s.cal.valid then .error .noTime
  else match bookingOf q with
    | none => .error .badValue
    | some b =>
      let b := { b with duration := limitDuration b.duration }
      if conflicts s b.first b.last (intervalOf b) none then .error .conflict
      else match emptySlot s with
        | none => .error .full
        | some k => .ok (k, b)

/-- A booking is placed or replaced, and the evaluation that follows treats it as R145 states. -/
def placeBooking (k : SlotId) (b : Booking) (s : State) : State :=
  let old := s.cal.slots
  evaluateFrom (.request k) old (putBooking k (some b) s)

/-- R145: BOOK ADD. -/
def doBookAdd (tag : Octet) (q : BookingParams) (s : State) : State :=
  let s := applyPoint s
  match addCheck s q with
  | .error e => answer tag e (noSlotData s) (takeTwo s)
  | .ok (k, b) =>
    let s := placeBooking k b s
    answer tag (takenStatus q) (bookingData s k.val s.cal.slots[k]) s

/-- R146: the checks of BOOK CHANGE in their order: the status of a refusal, or the record. -/
def changeCheck (s : State) (k : SlotId) (q : BookingParams) : Except Status Booking :=
  if !s.cal.valid then .error .noTime
  else match bookingOf q with
    | none => .error .badValue
    | some b =>
      match s.cal.slots[k] with
      | none => .error .notFound
      | some old =>
        if old.state ≠ .scheduled ∨ isLocked s old then .error .locked
        else
          let b := { b with
            duration := limitDuration b.duration, origin := old.origin, extension := old.extension }
          if conflicts s b.first b.last (intervalOf b) (some k) then .error .conflict else .ok b

/-- R203: a booking request that names a slot: BAD_INDEX without data, or the slot. -/
def withSlot (tag slot : Octet) (s : State) (f : SlotId → State → State) : State :=
  let s := applyPoint s
  match finOf 48 slot.toNat with
  | none => answer tag .badIndex [] s
  | some k => f k s

/-- The reply of a booking request that names a slot (R144). -/
def answerSlot (tag : Octet) (status : Status) (k : SlotId) (s : State) : State :=
  answer tag status (bookingData s k.val s.cal.slots[k]) s

/-- R146: BOOK CHANGE, after its apply point. -/
def changeBooking (tag : Octet) (q : BookingParams) (k : SlotId) (s : State) : State :=
  match changeCheck s k q with
  | .error e => answerSlot tag e k s
  | .ok b => answerSlot tag (takenStatus q) k (placeBooking k b s)

def doBookChange (tag slot : Octet) (q : BookingParams) (s : State) : State := withSlot tag slot s (changeBooking tag q)

/-- R147: a booking is removed, and an evaluation follows. -/
def removeBooking (k : SlotId) (s : State) : State :=
  let old := s.cal.slots
  evaluateFrom .ordinary old (putBooking k none s)

/-- R147: BOOK CANCEL, after its apply point. -/
def cancelBooking (tag : Octet) (k : SlotId) (s : State) : State :=
  match s.cal.slots[k] with
  | none => answerSlot tag .notFound k s
  | some b => if isLocked s b then answerSlot tag .locked k s else answerSlot tag .ok k (removeBooking k s)

def doBookCancel (tag slot : Octet) (s : State) : State := withSlot tag slot s (cancelBooking tag)

/-- R148: BOOK EXTEND, after its apply point. -/
def extendSlot (tag : Octet) (k : SlotId) (s : State) : State :=
  match s.cal.slots[k] with
  | none => answerSlot tag .notFound k s
  | some b =>
    match extendCheck s k b with
    | some e => answerSlot tag e k s
    | none => answerSlot tag .ok k (extendBooking k b s)

def doBookExtend (tag slot : Octet) (s : State) : State := withSlot tag slot s (extendSlot tag)

/-- R149: BOOK END, after its apply point. -/
def endSlot (tag : Octet) (k : SlotId) (s : State) : State :=
  match s.cal.slots[k] with
  | none => answerSlot tag .notFound k s
  | some b =>
    if b.state = .scheduled ∨ b.state = .leadIn then answerSlot tag .refused k s
    else answerSlot tag .ok k (finishBooking k b s)

def doBookEnd (tag slot : Octet) (s : State) : State := withSlot tag slot s (endSlot tag)

/-! ## DIVIDER REPORT (R110, R111) -/

/-- R203: the plan that a report names; none: BAD_VALUE. -/
def planOf (ab bc cd : Octet) : Option Plan :=
  match dividerOf ab.toNat, dividerOf bc.toNat, dividerOf cd.toNat with
  | some x, some y, some z => some ⟨x, y, z⟩
  | _, _, _ => none

def doDividerReport (tag ab bc cd : Octet) (s : State) : State :=
  let s := applyPoint s
  match planOf ab bc cd with
  | none => answer tag .badValue (plannerData s) s
  | some p =>
    let s := report p s
    answer tag .ok (plannerData s) s

/-! ## The Floor Controller's requests (R77 to R81) -/

/-- R77: checks 1 to 3 of a seat request. -/
def seatCheck (s : State) (i : SeatId) : Option Status :=
  let f := s.floors[roomOfSeat s i]
  if s.standby.room ≠ .active then some .asleep
  else if f.state = .frozen then some .busy
  else if s.cfg.seats[i].role = .listener ∨ !isLive s i ∨ f.state = .inactive ∨
      (f.state = .priority ∧ s.cfg.seats[i].role ≠ .chair) then some .refused
  else none

/-- The max open of the profile that a floor holds. -/
def maxOpenOf (s : State) (r : SectionId) : Nat := ((floorProfile s r).map (·.maxOpen)).getD 0

/-- R78: SEAT OPEN's own check. -/
def openCheck (s : State) (i : SeatId) : Option Status :=
  let r := roomOfSeat s i
  if s.cfg.seats[i].role ≠ .chair ∧ (s.seats[i].mic = .off ∨ s.seats[i].mic = .closing ∨ s.seats[i].mic = .waiting) ∧
      maxOpenOf s r ≤ admittedCount s r then some .full
  else none

/-- R78: a SEAT OPEN that passes its checks. -/
def openSeat (r : SectionId) (i : SeatId) (s : State) : State :=
  match s.seats[i].mic with
  | .opening => s
  | .on => s
  | .suspended => if s.cfg.seats[i].role = .chair then admitSeat r i false s else s
  | _ => admitSeat r i false s

/-- R79: a SEAT CLOSE that passes its checks. -/
def closeOrWithdraw (r : SectionId) (i : SeatId) (s : State) : State :=
  if s.seats[i].mic = .waiting then withdraw r i s else closeSeat r i s

/-- R79: a SEAT DEQUEUE that passes its checks. -/
def dequeueSeat (r : SectionId) (i : SeatId) (s : State) : State :=
  if s.seats[i].mic = .waiting then withdraw r i s else s

/-- R80: SEAT ENQUEUE's own checks. A seat already WAITING adds nothing to the queue, so it meets no FULL (assumption 13). -/
def enqueueCheck (s : State) (i : SeatId) : Option Status :=
  let r := roomOfSeat s i
  match floorProfile s r with
  | none => some .refused
  | some p =>
    if s.cfg.seats[i].role = .chair ∨ isOpenMic s.seats[i].mic ∨ p.mode = .voice then some .refused
    else if s.seats[i].mic ≠ .waiting ∧ !queueHasRoom s r p then some .full
    else none

/-- R80: a SEAT ENQUEUE that passes its checks. -/
def enqueueSeat (r : SectionId) (i : SeatId) (s : State) : State :=
  if s.seats[i].mic = .waiting then s else joinTail r i s

/-- R77: a seat request: its apply point, BAD_INDEX, the checks in order, and its effect at the floor of the seat's room. -/
def seatRequest (tag seat : Octet) (check : State → SeatId → Option Status) (f : SectionId → SeatId → State → State)
    (s : State) : State :=
  let s := applyPoint s
  match finOf 64 seat.toNat with
  | none => answer tag .badIndex [] s
  | some i =>
    match (seatCheck s i).or (check s i) with
    | some e => answer tag e [] s
    | none =>
      let r := roomOfSeat s i
      answer tag .ok [] (floorEvent r (f r i) s)

/-- No check of the request's own. -/
def noCheck (_ : State) (_ : SeatId) : Option Status := none

/-- R203: a request that names a room id. -/
def withRoom (tag room : Octet) (s : State) (f : SectionId → State → State) : State :=
  let s := applyPoint s
  match finOf 4 room.toNat with
  | none => answer tag .badIndex [] s
  | some r => f r s

/-- R81: FLOOR CLEAR's checks. -/
def clearCheck (s : State) (r : SectionId) : Option Status :=
  if s.standby.room ≠ .active then some .asleep
  else match s.floors[r].state with
    | .frozen => some .busy
    | .inactive => some .refused
    | _ => none

/-- R81: FLOOR CLEAR, after its apply point. -/
def clearRoom (tag : Octet) (r : SectionId) (s : State) : State :=
  match clearCheck s r with
  | some e => answer tag e [] s
  | none => answer tag .ok [] (floorEvent r (fun t => resumeIfFree r (clearFloor r t)) s)

/-! ## The Screen Director's requests (R182, R183) -/

/-- R182: the checks of a follow request. -/
def followCheck (s : State) (r : SectionId) : Option Status :=
  if s.standby.room ≠ .active then some .asleep
  else if s.floors[r].state = .frozen then some .busy
  else if !isRoom s.planner.active r then some .refused
  else none

/-- R182: FOLLOW HOLD's effect. -/
def holdFollow (r : SectionId) (s : State) : State :=
  if s.video.follow[r].state = .held then s
  else modFollow r (fun f => { f with state := .held, dwell := none, pendingFlag := false }) (dropAwaited r s)

/-- R183: the record becomes FOLLOWING with no dwell deadline and no pending flag. -/
def startFollowing (r : SectionId) (s : State) : State :=
  modFollow r (fun f => { f with state := .following, dwell := none, pendingFlag := false }) s

/-- R183: FOLLOW RELEASE's effect. -/
def releaseFollow (r : SectionId) (s : State) : State :=
  let s := startFollowing r s
  if roomInSession s r then actCandidate r s else s

/-- R183: FOLLOW RESET's effect. -/
def followToOverview (r : SectionId) (s : State) : State :=
  let s := startFollowing r (dropAwaited r s)
  if roomInSession s r then actOverview r s else s

/-- R182: a follow request after its apply point; the reply carries the follow record whatever the status. -/
def followRequest (tag : Octet) (f : SectionId → State → State) (r : SectionId) (s : State) : State :=
  match followCheck s r with
  | some e => answer tag e (followData s r) s
  | none =>
    let s := f r s
    answer tag .ok (followData s r) s

/-! ## The line units', the Standby Controller's and the Mix Engine's requests -/

/-- R12, R14, R203: a request that names a line. -/
def lineRequest (tag line : Octet) (f : SectionId → State → State) (s : State) : State :=
  let s := applyPoint s
  match finOf 4 line.toNat with
  | none => answer tag .badIndex [] s
  | some l => answer tag .ok [] (f l s)

/-- R162: WAKE. -/
def doWake (tag : Octet) (s : State) : State :=
  let s := wakeCause (applyPoint s)
  answer tag .ok [octet (roomStateCode s.standby.room)] s

/-- R104: CLEAR CLIPS. -/
def doClearClips (tag : Octet) (s : State) : State :=
  answer tag .ok [] (modMix (fun m => { m with clips := Vector.replicate 12 0 }) (applyPoint s))

end Sys2Proof.Machine
end

