-- ==== Sys2Proof/Machine/Reset.lean ====
section
/-! DEFINITION. The two resets: power-on (R206) and the soft reset of the RESET request (R205 and the rules it gathers). -/

namespace Sys2Proof.Machine

open Sys2Proof

/-! ## Power-on -/

/-- R206: the part starts from power-on. The commands waiting and the count of free values used are the model's own, and stay. -/
def powerOn (s : State) : State := { State.reset with pending := s.pending, fresh := s.fresh }

/-! ## Soft reset, block by block -/

/-- R21: a line unit after a soft reset: a STOPPED line stays STOPPED, any other enumerates again. -/
def softUnit (u : LineUnit) : LineUnit :=
  if u.state = .stopped then { u with pollPhase := 0 }
  else { enumerateUnit u with state := .enumerating, pollPhase := 0 }

/-- R21, R24, R34, R46, R83, R123: a seat's runtime record after a soft reset; the seat kind is kept. -/
def softSeat (x : Seat) : Seat := { Seat.powerOn with kind := x.kind }

/-- R123: the Room Planner after a soft reset; the active plan is kept. -/
def softPlanner (p : Planner) : Planner := { Planner.powerOn with active := p.active }

/-- R156: what a soft reset makes of a slot: a GRACE booking is ended, any other session returns to PENDING. -/
def softSlot (b : Option Booking) : Option Booking :=
  match b with
  | none => none
  | some b =>
    match b.state with
    | .grace => afterEnd b
    | .inSession => some { b with state := .pending }
    | .ending => some { b with state := .pending }
    | _ => some b

/-- R156: the calendar after a soft reset, before its evaluation; room time is kept. -/
def softCalendar (c : Calendar) : Calendar :=
  { c with slots := Vector.ofFn fun k : SlotId => softSlot c.slots[k], held := Vector.replicate 4 false }

/-- R190: the Screen Director after a soft reset, before its screens are brought into line. -/
def softVideo (v : Video) : Video :=
  { v with
    cameras := Vector.replicate 8 ⟨none, false⟩
    screens := Vector.ofFn fun k : ScreenId => ⟨.blank, v.screens[k].power, false⟩
    follow := Vector.replicate 4 Follow.idle
    queue := []
    inFlight := [] }

/-- R205: the Management Unit after a soft reset. -/
def softMgmt (m : Mgmt) : Mgmt := { clearPosted m with events := [], resync := true }

/-- The reset's own part at every block; no event of it is raised (R205). -/
def softBlocks (s : State) : State :=
  { s with
    lines := Vector.ofFn fun l : SectionId => softUnit s.lines[l]
    seats := Vector.ofFn fun i : SeatId => softSeat s.seats[i]
    floors := Vector.replicate 4 Floor.idle
    admissions := 0
    mix := { s.mix with clips := Vector.replicate 12 0 }
    planner := softPlanner s.planner
    cal := softCalendar s.cal
    standby := ⟨.active, 0, none⟩
    video := softVideo s.video
    mgmt := softMgmt s.mgmt }

/-- R21, R11: the LINE events of the enumerations that the reset begins, into the new event queue. -/
def softLineEvents (before s : State) : State :=
  forEach allSections (fun l t =>
    if before.lines[l].state ≠ t.lines[l].state then raiseEvent .line l.val (lineStateCode t.lines[l].state) t else t) s

/-- R190: a SHOW of the target for every screen whose kept power is ON and whose wanted power is ON. -/
def showAgain (k : ScreenId) (s : State) : State :=
  if s.video.screens[k].power ∧ wantedPower s then enqueue (.display k (targetSource s k)) s else s

/-- R190: every screen is reconciled, and shown its target again. -/
def softScreens (s : State) : State := forEach allScreens showAgain (reconcileAll s)

/-- R205: a soft reset; the calendar's evaluation comes last (R156). -/
def softReset (s : State) : State := evaluate .ordinary (softScreens (softLineEvents s (softBlocks s)))

/-- R205: RESET. -/
def doReset (tag : Octet) (s : State) : State := answer tag .ok [] (softReset (applyPoint s))

end Sys2Proof.Machine
end

