-- ==== Sys2Proof/Machine/Trunk.lean ====
section
/-! DEFINITION. The Trunk Interface (chapter 10): cells and superframes, link state, frame periods, and the timers that a frame
period counts. -/

namespace Sys2Proof.Machine

open Sys2Proof

/-! ## Requests that arrive in cells (R195, R196, R209) -/

/-- A request as its own event, whatever cell brought it; a command that is no request does nothing here. -/
def serve (c : Instr) (s : State) : State :=
  match c with
  | .badRequest tag _ => doBadRequest tag s
  | .read tag t i f => doRead tag t i f s
  | .write tag t i f v => doWrite tag t i f v s
  | .apply tag => doApply tag s
  | .clockSet tag m x => doClockSet tag m x s
  | .bookAdd tag q => doBookAdd tag q s
  | .bookChange tag k q => doBookChange tag k q s
  | .bookCancel tag k => doBookCancel tag k s
  | .bookExtend tag k => doBookExtend tag k s
  | .bookEnd tag k => doBookEnd tag k s
  | .dividerReport tag x y z => doDividerReport tag x y z s
  | .seatOpen tag i => seatRequest tag i openCheck openSeat s
  | .seatClose tag i => seatRequest tag i noCheck closeOrWithdraw s
  | .seatEnqueue tag i => seatRequest tag i enqueueCheck enqueueSeat s
  | .seatDequeue tag i => seatRequest tag i noCheck dequeueSeat s
  | .floorClear tag r => withRoom tag r s (clearRoom tag)
  | .followHold tag r => withRoom tag r s (followRequest tag holdFollow)
  | .followRelease tag r => withRoom tag r s (followRequest tag releaseFollow)
  | .followReset tag r => withRoom tag r s (followRequest tag followToOverview)
  | .lineStart tag l => lineRequest tag l lineStart s
  | .lineStop tag l => lineRequest tag l lineStop s
  | .wake tag => doWake tag s
  | .clearClips tag => doClearClips tag s
  | .reset tag => doReset tag s
  | _ => s

/-- The inbound cell of the superframe in progress has been handled (R196: at most one request in each superframe). -/
def markTaken (s : State) : State := modMgmt (fun m => { m with cellTaken := true }) s

/-- R195, R209: a received cell; only the kind REQUEST has an effect. -/
def handleCell (cell : List Octet) (s : State) : State :=
  match decodeCell cell with
  | none => markTaken s
  | some c => serve c (markTaken s)

/-! ## Superframes (R3, R195, R200) -/

/-- R195: the outbound cell of the superframe that begins, by the first row that applies. -/
def chooseCell (link : Link) (m : Mgmt) : Mgmt :=
  if link = .down then { m with outCell := emptyCell }
  else match m.reply with
    | some r => { m with outCell := replyCell r, reply := none }
    | none =>
      match m.events with
      | e :: rest => { m with outCell := eventCell m.resync (some e), events := rest, resync := false }
      | [] =>
        if m.resync then { m with outCell := eventCell true none, resync := false } else { m with outCell := emptyCell }

/-- R195: the link has been UP since the superframe began, and every frame period of it so far had a valid inbound frame. -/
def cellWhole (t : Trunk) : Bool := t.upFromStart && t.inCell.length == 2 * t.frameIndex

/-- R195: the inbound cell of a superframe that ends, when the link was UP from its start and all eight frames were valid. -/
def endCell (s : State) : State :=
  if s.trunk.upFromStart && !s.mgmt.cellTaken && s.trunk.inCell.length == 16 then handleCell s.trunk.inCell s else s

/-- R200: the apply timer at the end of a superframe. -/
def countApply (s : State) : State :=
  match s.mgmt.applyTimer with
  | none => s
  | some n =>
    if s.mgmt.applyFresh then modMgmt (fun m => { m with applyFresh := false }) s
    else if n + 1 < Config.applySuperframes then modMgmt (fun m => { m with applyTimer := some (n + 1) }) s
    else applyPoint s

/-- The end of a superframe: the turns of the lines, the inbound cell, and the apply timer. -/
def superframeEnd (s : State) : State := countApply (endCell (forEach allSections lineSuperframeEnd s))

/-- The Management Unit as a superframe begins. -/
def beginMgmt (link : Link) (m : Mgmt) : Mgmt := { chooseCell link m with cellTaken := false }

/-- The Trunk Interface as a superframe begins. -/
def beginTrunk (t : Trunk) : Trunk := { t with frameIndex := 0, upFromStart := t.link == .up, inCell := [] }

/-- The beginning of a superframe: each line's turn and cell, and the outbound cell. -/
def superframeBegin (s : State) : State :=
  modTrunk beginTrunk (modMgmt (beginMgmt s.trunk.link) (lineSuperframeBegin s))

/-- R3: a superframe boundary. -/
def superframeStep (s : State) : State := superframeBegin (superframeEnd s)

/-! ## Link state (R193, R194) -/

/-- R193: the link becomes DOWN. -/
def linkGoesDown (s : State) : State :=
  modTrunk (fun t => { t with
    link := .down, miss := 0, upCount := 0, timing := .freeRun, programs := Vector.replicate 4 0, upFromStart := false }) s

/-- R194: the link becomes UP; the RESYNC mark is set. -/
def linkComesUp (s : State) : State :=
  modMgmt (fun m => { m with resync := true }) (modTrunk (fun t => { t with link := .up, miss := 0, upCount := 0 }) s)

/-- R191, R192, R193: a valid inbound frame on an UP link. -/
def takeInbound (f : TrunkIn) (t : Trunk) : Trunk :=
  { t with miss := 0, programs := f.channels, inCell := t.inCell ++ [f.cell0, f.cell1] }

/-- R193: a frame period without a valid frame on an UP link. -/
def missInbound (t : Trunk) : Trunk := { t with miss := t.miss + 1, programs := Vector.replicate 4 0 }

/-- R192: the valid inbound frame of a frame period, if it has one. -/
def validInbound (f : Option TrunkIn) : Option TrunkIn := f.filter trunkInValid

/-- R193: the inbound side of a frame period on an UP link. -/
def inboundUp (f : Option TrunkIn) (s : State) : State :=
  match validInbound f with
  | some f => modTrunk (takeInbound f) s
  | none =>
    let s := modTrunk missInbound s
    if s.trunk.miss < Config.linkMissLimit then s else linkGoesDown s

/-- R194: the inbound side of a frame period on a DOWN link. -/
def inboundDown (f : Option TrunkIn) (s : State) : State :=
  match validInbound f with
  | some _ =>
    let s := modTrunk (fun t => { t with upCount := t.upCount + 1, programs := Vector.replicate 4 0 }) s
    if s.trunk.upCount < Config.linkUpLimit then s else linkComesUp s
  | none => modTrunk (fun t => { t with upCount := 0, programs := Vector.replicate 4 0 }) s

/-- R192 to R194: the inbound side of a frame period. -/
def inbound (f : Option TrunkIn) (s : State) : State :=
  match s.trunk.link with
  | .up => inboundUp f s
  | .down => inboundDown f s

/-! ## Timers (R16, R34, R124, R158, R165, R174, R189) -/

/-- R16: the retry timer of a line in FAULT. -/
def tickRetry (l : SectionId) (s : State) : State :=
  match s.lines[l].retry with
  | none => s
  | some n =>
    if n + 1 < Config.retryFrames then modLine l (fun u => { u with retry := some (n + 1) }) s else lineStart l s

/-- R34: a DENIED timer. -/
def tickDenied (x : Seat) : Seat :=
  match x.denied with
  | none => x
  | some n => { x with denied := if n + 1 < Config.deniedFrames then some (n + 1) else none }

/-- R165: the wake timer. -/
def tickWake (s : State) : State :=
  match s.standby.wake with
  | none => s
  | some n =>
    if n + 1 < Config.wakeFrames then modStandby (fun b => { b with wake := some (n + 1) }) s else wakeEnd s

/-- R157, R158, R159: the idle timer; it is held at 0 unless the room is ACTIVE and every seat is OFF. -/
def tickIdle (s : State) : State :=
  if s.standby.room = .active ∧ allOff s then
    let before := s.standby.idle
    let s := modStandby (fun b => { b with idle := min Config.idleStop (b.idle + 1) }) s
    if s.standby.idle ≠ before ∧ s.standby.idle = idleDelayFrames s then standbyTest s else s
  else modStandby (fun b => { b with idle := 0 }) s

/-- R189: the reply timers; a directive unanswered for 2,000 ms times out, oldest first. -/
def tickReplies (s : State) : State :=
  let s := modVideo (fun v => { v with inFlight := v.inFlight.map fun x => { x with timer := x.timer + 1 } }) s
  let due := s.video.inFlight.filter fun x => Config.replyFrames ≤ x.timer
  forEach (due.map fun x => targetOfDirective x.directive) mediaTimeout s

/-- R174: a dwell deadline. -/
def tickDwell (r : SectionId) (s : State) : State :=
  match s.video.follow[r].dwell with
  | none => s
  | some n => if 1 < n then modFollow r (fun f => { f with dwell := some (n - 1) }) s else dwellOver r s

/-- The timers of the part count one frame period, in the order given here (assumption 4). -/
def tickTimers (s : State) : State :=
  let s := forEach allSections tickRetry s
  let s := modSeats (fun _ => tickDenied) s
  let s := tickIdle (tickWake (tickRoomTime s))
  forEach allSections tickDwell (tickReplies s)

/-! ## The frame period (R1, R84, R191, R192) -/

/-- R191, R105: the outbound trunk frame of a frame period. -/
def outboundFrame (s : State) : TrunkOut :=
  trunkFrame s.trunk.frameIndex (if s.standby.room = .active then s.mix.feeds else Vector.replicate 8 0) s.mgmt.outCell

/-- R1, R191: the frames that leave as the frame period begins. -/
def sendFrames (s : State) : State :=
  let k := s.trunk.frameIndex
  sendLineFrames k (modTrunk (fun t => { t with sent := some (outboundFrame s), frameIndex := k + 1 }) s)

/-- What is still due of the frame period before: frames not returned, and its frame computation (R1, R84). A frame period inside
which a wake ended has no computation due (R165, assumption 37). -/
def finishPeriod (s : State) : State :=
  let s := overdueFrames s
  if s.mix.computed then s else frameStep s

/-- R3: the superframe boundary, when eight frames have been sent. -/
def boundaryDue (s : State) : State := if s.trunk.frameIndex < Config.framesPerSuperframe then s else superframeStep s

/-- R192: the timing source of the frame period that begins. -/
def timingOf (l : Link) : Timing :=
  match l with
  | .up => .trunk
  | .down => .freeRun

/-- R192: a frame period begins. Nothing sent on the media link before it is shown as sent in it. -/
def framePeriod (f : Option TrunkIn) (s : State) : State :=
  let s := boundaryDue (finishPeriod (modVideo (fun v => { v with transmitted := [] }) s))
  let s := inbound f (modTrunk (fun t => { t with timing := timingOf t.link }) s)
  tickTimers (modMix (fun m => { m with computed := false }) (sendFrames s))

end Sys2Proof.Machine
end

