-- ==== Sys2Proof/Machine/RequestCommands.lean ====
section
/-! DEFINITION. The meanings of the requests (chapter 10 and the owner chapters). Each is the request of one superframe, which
takes the place of that superframe's inbound cell (R196). -/

namespace Sys2Proof.Machine

open Sys2Proof

/-- BAD_REQUEST (R196). -/
def execBadRequest (tag _code : Octet) (s : State) : Outcome := .next (doBadRequest tag (markTaken s))

/-- READ (R198). -/
def execRead (tag t i f : Octet) (s : State) : Outcome := .next (doRead tag t i f (markTaken s))

/-- WRITE (R199). -/
def execWrite (tag t i f : Octet) (v : Half) (s : State) : Outcome := .next (doWrite tag t i f v (markTaken s))

/-- APPLY (R204). -/
def execApply (tag : Octet) (s : State) : Outcome := .next (doApply tag (markTaken s))

/-- CLOCK SET (R126). -/
def execClockSet (tag : Octet) (m : Half) (x : Octet) (s : State) : Outcome := .next (doClockSet tag m x (markTaken s))

/-- BOOK ADD (R145). -/
def execBookAdd (tag : Octet) (q : BookingParams) (s : State) : Outcome := .next (doBookAdd tag q (markTaken s))

/-- BOOK CHANGE (R146). -/
def execBookChange (tag slot : Octet) (q : BookingParams) (s : State) : Outcome :=
  .next (doBookChange tag slot q (markTaken s))

/-- BOOK CANCEL (R147). -/
def execBookCancel (tag slot : Octet) (s : State) : Outcome := .next (doBookCancel tag slot (markTaken s))

/-- BOOK EXTEND (R148). -/
def execBookExtend (tag slot : Octet) (s : State) : Outcome := .next (doBookExtend tag slot (markTaken s))

/-- BOOK END (R149). -/
def execBookEnd (tag slot : Octet) (s : State) : Outcome := .next (doBookEnd tag slot (markTaken s))

/-- DIVIDER REPORT (R110). -/
def execDividerReport (tag ab bc cd : Octet) (s : State) : Outcome := .next (doDividerReport tag ab bc cd (markTaken s))

/-- SEAT OPEN (R78). -/
def execSeatOpen (tag seat : Octet) (s : State) : Outcome := .next (seatRequest tag seat openCheck openSeat (markTaken s))

/-- SEAT CLOSE (R79). -/
def execSeatClose (tag seat : Octet) (s : State) : Outcome :=
  .next (seatRequest tag seat noCheck closeOrWithdraw (markTaken s))

/-- SEAT ENQUEUE (R80). -/
def execSeatEnqueue (tag seat : Octet) (s : State) : Outcome :=
  .next (seatRequest tag seat enqueueCheck enqueueSeat (markTaken s))

/-- SEAT DEQUEUE (R79). -/
def execSeatDequeue (tag seat : Octet) (s : State) : Outcome :=
  .next (seatRequest tag seat noCheck dequeueSeat (markTaken s))

/-- FLOOR CLEAR (R81). -/
def execFloorClear (tag room : Octet) (s : State) : Outcome := .next (withRoom tag room (markTaken s) (clearRoom tag))

/-- FOLLOW HOLD (R182). -/
def execFollowHold (tag room : Octet) (s : State) : Outcome :=
  .next (withRoom tag room (markTaken s) (followRequest tag holdFollow))

/-- FOLLOW RELEASE (R183). -/
def execFollowRelease (tag room : Octet) (s : State) : Outcome :=
  .next (withRoom tag room (markTaken s) (followRequest tag releaseFollow))

/-- FOLLOW RESET (R183). -/
def execFollowReset (tag room : Octet) (s : State) : Outcome :=
  .next (withRoom tag room (markTaken s) (followRequest tag followToOverview))

/-- LINE START (R12). -/
def execLineStart (tag line : Octet) (s : State) : Outcome := .next (lineRequest tag line lineStart (markTaken s))

/-- LINE STOP (R14). -/
def execLineStop (tag line : Octet) (s : State) : Outcome := .next (lineRequest tag line lineStop (markTaken s))

/-- WAKE (R162). -/
def execWake (tag : Octet) (s : State) : Outcome := .next (doWake tag (markTaken s))

/-- CLEAR CLIPS (R104). -/
def execClearClips (tag : Octet) (s : State) : Outcome := .next (doClearClips tag (markTaken s))

/-- RESET (R205). -/
def execReset (tag : Octet) (s : State) : Outcome := .next (doReset tag (markTaken s))

end Sys2Proof.Machine
end

