-- ==== Sys2Proof/Machine/RoomEvents.lean ====
section
/-! DEFINITION. The meanings of the events of room time, standby, apply timer, screens and replans (chapters 6 to 10). -/

namespace Sys2Proof.Machine

open Sys2Proof

/-- APPLY_TIMER_EXPIRY (R200): a running timer ends its 32nd superframe. -/
def execApplyTimerExpiry (s : State) : Outcome := .next (if s.mgmt.applyTimer.isSome then applyPoint s else s)

/-- MINUTE_BOUNDARY (R124): room time does not advance while it is INVALID. -/
def execMinuteBoundary (s : State) : Outcome := .next (if s.cal.valid then advanceMinute s else s)

/-- R159: the idle timer of an ACTIVE room whose seats are all OFF reaches the idle delay. -/
def idleReached (s : State) : State :=
  if s.standby.room = .active ∧ allOff s then
    standbyTest (modStandby (fun b => { b with idle := max b.idle (idleDelayFrames s) }) s)
  else s

/-- IDLE_TIMER_EXPIRY (R159). -/
def execIdleTimerExpiry (s : State) : Outcome := .next (idleReached s)

/-- WAKE_TIMER_EXPIRY (R165): a running wake timer reaches 2,000 ms. -/
def execWakeTimerExpiry (s : State) : Outcome := .next (if s.standby.wake.isSome then wakeEnd s else s)

/-- DWELL_EXPIRY (R174): a running dwell deadline reaches 0. -/
def execDwellExpiry (r : SectionId) (s : State) : Outcome :=
  .next (if s.video.follow[r].dwell.isSome then dwellOver r s else s)

/-- DONE (R188). -/
def execDone (t : Target) (s : State) : Outcome := .next (mediaDone t s)

/-- FAIL (R188). -/
def execFail (t : Target) (s : State) : Outcome := .next (mediaFail t s)

/-- REPLY_TIMEOUT (R189): the reply timer of the directive in flight for a target reaches 2,000 ms. -/
def execReplyTimeout (t : Target) (s : State) : Outcome := .next (mediaTimeout t s)

/-- R188: a message from the media receive line: discarded, or the reply it is. -/
def mediaMessage (m : Vector Octet 8) (s : State) : State :=
  match decodeMediaReply m with
  | some (.done t) => mediaDone t s
  | some (.fail t) => mediaFail t s
  | _ => s

/-- MEDIA_MESSAGE_DISCARD (R188). -/
def execMediaMessageDiscard (m : Vector Octet 8) (s : State) : Outcome := .next (mediaMessage m s)

/-- REBUILD (R118): taken when a drain is over (R117). -/
def execRebuild (s : State) : Outcome := .next (drainTest s)

end Sys2Proof.Machine
end

