-- ==== Sys2Proof/Machine/SeatEvents.lean ====
section
/-! DEFINITION. The meanings of a seat's replies and of the events of its floor's counts and timers (chapters 1, 2 and 4). -/

namespace Sys2Proof.Machine

open Sys2Proof

/-- HELLO (R7, R9). -/
def execHello (i : SeatId) (kind : SeatKind) (s : State) : Outcome := .next (replyArrives i (some (.hello kind)) s)

/-- KEY (R8, R10, R18). -/
def execKey (i : SeatId) (k : Key) (a : KeyAction) (s : State) : Outcome := .next (replyArrives i (some (.key ⟨k, a⟩)) s)

/-- QUIET (R8, R10). -/
def execQuiet (i : SeatId) (s : State) : Outcome := .next (replyArrives i (some .quiet) s)

/-- MISSED_TURN (R5). -/
def execMissedTurn (i : SeatId) (s : State) : Outcome := .next (replyArrives i none s)

/-- R63: the silence duration of a non-chair seat in ON reaches the silence close time. -/
def silenceReached (i : SeatId) (s : State) : State :=
  match testedProfile s i with
  | none => s
  | some p =>
    if silenceTime p = 0 then s
    else silenceClose i (modSeat i (fun x => { x with silence := max x.silence (silenceTime p) }) s)

/-- SILENCE_CLOSE (R63). -/
def execSilenceClose (i : SeatId) (s : State) : Outcome := .next (silenceReached i s)

/-- R62: the speaking seconds of a non-chair seat in ON reach the warning point; a seat warned already is not warned again. -/
def warningReached (i : SeatId) (s : State) : State :=
  match testedProfile s i with
  | none => s
  | some p =>
    if warns p && !s.seats[i].limitWarning then
      floorEvent (roomOfSeat s i) (warnSeat i)
        (modSeat i (fun x => { x with speakSecs := max x.speakSecs (warningPoint p) }) s)
    else s

/-- LIMIT_WARNING (R62). -/
def execLimitWarning (i : SeatId) (s : State) : Outcome := .next (warningReached i s)

/-- R62: the speaking seconds of a non-chair seat in ON reach the speak limit. -/
def limitReached (i : SeatId) (s : State) : State :=
  match testedProfile s i with
  | none => s
  | some p =>
    if p.speakLimit = 0 then s
    else
      let r := roomOfSeat s i
      floorEvent r (limitClose r i) (modSeat i (fun x => { x with speakSecs := max x.speakSecs p.speakLimit }) s)

/-- LIMIT_REACHED (R62). -/
def execLimitReached (i : SeatId) (s : State) : Outcome := .next (limitReached i s)

/-- DENIED_TIMER_EXPIRY (R34): the timer stops. -/
def execDeniedTimerExpiry (i : SeatId) (s : State) : Outcome := .next (modSeat i (fun x => { x with denied := none }) s)

end Sys2Proof.Machine
end

