-- ==== Sys2Proof/Machine/TrunkEvents.lean ====
section
/-! DEFINITION. The meanings of power-on and of the trunk's and the lines' own events: frames, superframes, link and line states
(chapters 1 and 10). A count's event row says that the count has reached its end now (assumption 1). -/

namespace Sys2Proof.Machine

open Sys2Proof

/-- POWER_ON (R206, and the power-on columns of every chapter). -/
def execPowerOn (s : State) : Outcome := .next (powerOn s)

/-- INBOUND_TRUNK_FRAME (R192): a frame period begins. -/
def execInboundTrunkFrame (f : Option TrunkIn) (s : State) : Outcome := .next (framePeriod f s)

/-- FREE_RUN_FRAME_PERIOD (R192): a frame period begins from the oscillator. -/
def execFreeRunFramePeriod (f : Option TrunkIn) (s : State) : Outcome := .next (framePeriod f s)

/-- LINK_DOWN (R193): the miss count of an UP link has reached 160. -/
def execLinkDown (s : State) : Outcome := .next (if s.trunk.link = .up then linkGoesDown s else s)

/-- LINK_UP (R194): the up count of a DOWN link has reached 16. -/
def execLinkUp (s : State) : Outcome := .next (if s.trunk.link = .down then linkComesUp s else s)

/-- SUPERFRAME (R3). -/
def execSuperframe (s : State) : Outcome := .next (superframeStep s)

/-- LINE_FRAME_RETURN (R1). -/
def execLineFrameReturn (l : SectionId) (f : Option LineIn) (s : State) : Outcome := .next (frameReturns l f s)

/-- LINE_FAULT (R15): the return monitor of a line that sends frames has reached 64. -/
def execLineFault (l : SectionId) (s : State) : Outcome := .next (if isPolled s.lines[l] then monitorFull l s else s)

/-- LINE_RETRY (R16): the retry timer of a line in FAULT has reached 1,000 ms. -/
def execLineRetry (l : SectionId) (s : State) : Outcome := .next (if s.lines[l].state = .fault then lineStart l s else s)

/-- ENUMERATION_END (R13): the 32nd superframe of a line's enumeration has ended. -/
def execEnumerationEnd (l : SectionId) (s : State) : Outcome :=
  .next (if s.lines[l].state = .enumerating then enumerationOver l s else s)

/-- FRAME_COMPUTATION (R84). -/
def execFrameComputation (s : State) : Outcome := .next (frameStep s)

/-- INBOUND_CELL (R195): the cell of a superframe in which the link was UP from its start and no frame period was without a valid
inbound frame; any other is discarded. -/
def execInboundCell (cell : Vector Octet 16) (s : State) : Outcome :=
  .next (if cellWhole s.trunk then handleCell cell.toList s else s)

end Sys2Proof.Machine
end

