-- ==== Sys2Proof/Machine/Dispatch.lean ====
section
/-! DEFINITION. The meaning of each command: one arm per constructor of Instr, one direct call each. -/

namespace Sys2Proof.Machine

open Sys2Proof

/-- The effect of a command on everything but the queue of commands waiting. -/
def exec (i : Instr) (s : State) : Host.Outcome State Fault Refusal :=
  match i with
  | .powerOn => Sys2Proof.Machine.execPowerOn s
  | .inboundTrunkFrame frame => Sys2Proof.Machine.execInboundTrunkFrame frame s
  | .linkDown => Sys2Proof.Machine.execLinkDown s
  | .linkUp => Sys2Proof.Machine.execLinkUp s
  | .superframe => Sys2Proof.Machine.execSuperframe s
  | .lineFrameReturn line frame => Sys2Proof.Machine.execLineFrameReturn line frame s
  | .lineFault line => Sys2Proof.Machine.execLineFault line s
  | .lineRetry line => Sys2Proof.Machine.execLineRetry line s
  | .enumerationEnd line => Sys2Proof.Machine.execEnumerationEnd line s
  | .hello seat kind => Sys2Proof.Machine.execHello seat kind s
  | .key seat k action => Sys2Proof.Machine.execKey seat k action s
  | .quiet seat => Sys2Proof.Machine.execQuiet seat s
  | .missedTurn seat => Sys2Proof.Machine.execMissedTurn seat s
  | .frameComputation => Sys2Proof.Machine.execFrameComputation s
  | .silenceClose seat => Sys2Proof.Machine.execSilenceClose seat s
  | .limitWarning seat => Sys2Proof.Machine.execLimitWarning seat s
  | .limitReached seat => Sys2Proof.Machine.execLimitReached seat s
  | .deniedTimerExpiry seat => Sys2Proof.Machine.execDeniedTimerExpiry seat s
  | .applyTimerExpiry => Sys2Proof.Machine.execApplyTimerExpiry s
  | .minuteBoundary => Sys2Proof.Machine.execMinuteBoundary s
  | .idleTimerExpiry => Sys2Proof.Machine.execIdleTimerExpiry s
  | .wakeTimerExpiry => Sys2Proof.Machine.execWakeTimerExpiry s
  | .dwellExpiry room => Sys2Proof.Machine.execDwellExpiry room s
  | .done target => Sys2Proof.Machine.execDone target s
  | .fail target => Sys2Proof.Machine.execFail target s
  | .replyTimeout target => Sys2Proof.Machine.execReplyTimeout target s
  | .mediaMessageDiscard message => Sys2Proof.Machine.execMediaMessageDiscard message s
  | .inboundCell cell => Sys2Proof.Machine.execInboundCell cell s
  | .badRequest tag code => Sys2Proof.Machine.execBadRequest tag code s
  | .read tag table index field => Sys2Proof.Machine.execRead tag table index field s
  | .write tag table index field value => Sys2Proof.Machine.execWrite tag table index field value s
  | .apply tag => Sys2Proof.Machine.execApply tag s
  | .clockSet tag minute second => Sys2Proof.Machine.execClockSet tag minute second s
  | .bookAdd tag fields => Sys2Proof.Machine.execBookAdd tag fields s
  | .bookChange tag slot fields => Sys2Proof.Machine.execBookChange tag slot fields s
  | .bookCancel tag slot => Sys2Proof.Machine.execBookCancel tag slot s
  | .bookExtend tag slot => Sys2Proof.Machine.execBookExtend tag slot s
  | .bookEnd tag slot => Sys2Proof.Machine.execBookEnd tag slot s
  | .dividerReport tag ab bc cd => Sys2Proof.Machine.execDividerReport tag ab bc cd s
  | .rebuild => Sys2Proof.Machine.execRebuild s
  | .seatOpen tag seat => Sys2Proof.Machine.execSeatOpen tag seat s
  | .seatClose tag seat => Sys2Proof.Machine.execSeatClose tag seat s
  | .seatEnqueue tag seat => Sys2Proof.Machine.execSeatEnqueue tag seat s
  | .seatDequeue tag seat => Sys2Proof.Machine.execSeatDequeue tag seat s
  | .floorClear tag room => Sys2Proof.Machine.execFloorClear tag room s
  | .followHold tag room => Sys2Proof.Machine.execFollowHold tag room s
  | .followRelease tag room => Sys2Proof.Machine.execFollowRelease tag room s
  | .followReset tag room => Sys2Proof.Machine.execFollowReset tag room s
  | .lineStart tag line => Sys2Proof.Machine.execLineStart tag line s
  | .lineStop tag line => Sys2Proof.Machine.execLineStop tag line s
  | .wake tag => Sys2Proof.Machine.execWake tag s
  | .clearClips tag => Sys2Proof.Machine.execClearClips tag s
  | .reset tag => Sys2Proof.Machine.execReset tag s
  | .freeRunFramePeriod frame => Sys2Proof.Machine.execFreeRunFramePeriod frame s

end Sys2Proof.Machine
end

