-- ==== Sys2Proof/Safety.lean ====
section
/-! DEFINITION. What holds of the T64 between commands, in the words statements use. Each invariant is a structure of plain
facts about State; nothing here is part of what the machine does. -/

namespace Sys2Proof.Machine

open Sys2Proof

/-- The key of an event: one entry of the event queue for each kind and subject (R202). -/
def Event.key (e : Event) : EventKind × Octet := (e.kind, e.subject)

/-- An event has been told to the room controller's queue: it stands in the event queue, or the RESYNC mark says that events were
dropped (R202). -/
def reported (s : State) (e : Event) : Prop := e ∈ s.mgmt.events ∨ s.mgmt.resync = true

/-- The targets of the media queue. -/
def queuedTargets (v : Video) : List Target := v.queue.map targetOfDirective

/-- The targets with a directive in flight. -/
def flightTargets (v : Video) : List Target := v.inFlight.map fun x => targetOfDirective x.directive

/-- The bounds and keys of the queues of the Management Unit and the Screen Director. -/
structure QueuesOk (s : State) : Prop where
  /-- R202 -/
  events : s.mgmt.events.length ≤ 48
  keys : (s.mgmt.events.map Event.key).Nodup
  /-- R199 -/
  posted : s.mgmt.posted.length ≤ 8
  /-- R187 -/
  flight : s.video.inFlight.length ≤ 4
  flightOnce : (flightTargets s.video).Nodup
  /-- R186 -/
  queueOnce : (queuedTargets s.video).Nodup

/-- A profile whose fields lie in the ranges of R36, with the silence threshold at or below the talk threshold (R37). -/
structure ProfileOk (p : Profile) : Prop where
  maxOpen : 1 ≤ p.maxOpen ∧ p.maxOpen ≤ 8
  queueCap : p.queueCap ≤ 32
  speakLimit : p.speakLimit ≤ 3600
  limitWarning : p.limitWarning ≤ 300
  silenceClose : p.silenceClose ≤ 255
  talkThreshold : p.talkThreshold ≤ 32767
  silenceThreshold : p.silenceThreshold ≤ p.talkThreshold
  duck : p.duck ≤ 4096
  dwell : p.dwell ≤ 30
  grace : p.grace ≤ 15
  endingWarning : p.endingWarning ≤ 30
  /-- R37: rounded down to a multiple of 15 -/
  extensionLimit : p.extensionLimit ≤ 240 ∧ p.extensionLimit % 15 = 0

/-- Room settings in the ranges of R43. -/
structure RoomOk (r : RoomSettings) : Prop where
  standbyLead : r.standbyLead ≤ 240
  idleDelay : 1 ≤ r.idleDelay ∧ r.idleDelay ≤ 120
  leadIn : r.leadIn ≤ 60
  adHocDuration : 15 ≤ r.adHocDuration ∧ r.adHocDuration ≤ 240
  lockedHorizon : r.lockedHorizon ≤ 240

/-- A posted write holds a value that its field's kind allows, and an extension limit is a multiple of 15 (R37, R199, R210). -/
def PostedOk (w : Posted) : Prop :=
  match fieldOf w.table w.field with
  | some (.numeric lo hi) => lo ≤ w.value ∧ w.value ≤ hi ∧ (w.table = 1 ∧ w.field = 16 → w.value % 15 = 0)
  | some .enumerated => definesValue w.table w.field w.value = true
  | _ => False

/-- The configuration, and every posted write, lies in the ranges of the tables (chapters 2, 3, 5 and 9). -/
structure ConfigOk (s : State) : Prop where
  seats : ∀ i : SeatId, s.cfg.seats[i].gain ≤ 8191 ∧ s.cfg.seats[i].volume ≤ 4096
  profiles : ∀ n : ProfileId, ProfileOk s.cfg.profiles[n]
  room : RoomOk s.cfg.room
  sections : ∀ x : SectionId, s.cfg.sections[x].feedLevel ≤ 4096
  programs : ∀ p : Fin 4, s.cfg.programs[p].gain ≤ 4096
  posted : ∀ w ∈ s.mgmt.posted, PostedOk w

/-- The counts of a seat's runtime record. -/
structure SeatOk (x : Seat) : Prop where
  /-- R5: the third missed turn loses the seat -/
  miss : x.missCount < 3
  gate : x.gate ≤ 256
  env : x.env ≤ 32767
  /-- R61 -/
  speakSecs : x.speakSecs ≤ 65535
  speakPart : x.speakPart < 16000
  /-- R63 -/
  silence : x.silence ≤ 255
  silencePart : x.silencePart < 16000
  /-- R34 -/
  denied : ∀ n ∈ x.denied, n < 16000
  /-- R19: only a latch that holds a key has been overrun -/
  overrun : x.overrun = true → x.latch.isSome

/-- A booking record (R127). -/
structure BookingOk (b : Booking) : Prop where
  start : b.start < 10080
  duration : b.duration = 0 ∨ (15 ≤ b.duration ∧ b.duration ≤ 720)
  range : b.first ≤ b.last
  /-- R127, R148: it counts in steps of 15 -/
  extension : b.extension ≤ 240 ∧ b.extension % 15 = 0

/-- Room time, the counts and the timers lie below the values at which the manual's rules act on them. -/
structure CountsOk (s : State) : Prop where
  minute : s.cal.minute < 10080
  second : s.cal.second < 60
  frame : s.cal.frame < 16000
  seats : ∀ i : SeatId, SeatOk s.seats[i]
  bookings : ∀ k : SlotId, ∀ b ∈ s.cal.slots[k], BookingOk b
  /-- R102 -/
  clips : ∀ c : Fin 12, s.mix.clips[c] ≤ 65535
  /-- R157 -/
  idle : s.standby.idle ≤ 115200000
  /-- R165 -/
  wake : ∀ n ∈ s.standby.wake, n < 32000
  /-- R193, R194 -/
  miss : s.trunk.miss < 160
  upCount : s.trunk.upCount < 16
  /-- R200 -/
  apply : ∀ n ∈ s.mgmt.applyTimer, n < 32
  /-- R13, R15, R16 -/
  lines : ∀ l : SectionId, s.lines[l].enumCount ≤ 32 ∧ s.lines[l].monitor < 64 ∧ ∀ n ∈ s.lines[l].retry, n < 16000
  /-- R189 -/
  replies : ∀ x ∈ s.video.inFlight, x.timer < 32000
  /-- R174 -/
  dwell : ∀ r : SectionId, ∀ n ∈ s.video.follow[r].dwell, 0 < n

/-- The line units (chapter 1): only a line that is ENUMERATING or RUNNING sends frames, gives turns and has seats; the retry
timer runs in FAULT alone. -/
structure LineOk (s : State) (l : SectionId) : Prop where
  silent : isPolled s.lines[l] = false → s.lines[l].sent = none ∧ s.lines[l].awaiting = false ∧ s.lines[l].turnNow = false ∧
    s.lines[l].mic = Vector.replicate 16 0
  present : ∀ i : SeatId, sectionOf i = l → s.seats[i].present = true → isPolled s.lines[l] = true
  retry : s.lines[l].retry.isSome = true ↔ s.lines[l].state = .fault
  identify : ∀ i : SeatId, sectionOf i = l → s.seats[i].identify = true →
    s.seats[i].present = false ∧ s.lines[l].state = .running

def LinesOk (s : State) : Prop := ∀ l : SectionId, LineOk s l

/-- A floor is in session: NORMAL or PRIORITY. -/
def inSession (f : Floor) : Prop := f.state = .normal ∨ f.state = .priority

/-- Admission times of an open set rise (R46, R49). -/
def risingTimes (es : List OpenEntry) : Prop := (es.map (·.time)).Pairwise (· < ·)

/-- The floor records and the mic states agree (R46 to R51, R65 to R67). -/
structure FloorOk (s : State) : Prop where
  /-- a seat waits exactly while it is in the queue of its room's floor -/
  waiting : ∀ (r : SectionId) (i : SeatId), i ∈ s.floors[r].queue ↔ (s.seats[i].mic = .waiting ∧ roomOfSeat s i = r)
  queueOnce : ∀ r : SectionId, s.floors[r].queue.Nodup
  /-- a seat is open exactly while it has an entry in the open set of its room's floor -/
  opened : ∀ (r : SectionId) (i : SeatId),
    i ∈ s.floors[r].openSet.map (·.seat) ↔ (isOpenMic s.seats[i].mic = true ∧ roomOfSeat s i = r)
  openOnce : ∀ r : SectionId, (s.floors[r].openSet.map (·.seat)).Nodup
  rising : ∀ r : SectionId, risingTimes s.floors[r].openSet
  times : ∀ r : SectionId, ∀ e ∈ s.floors[r].openSet, e.time ≤ s.admissions
  admissions : s.admissions ≤ 65535
  /-- a floor that is INACTIVE or FROZEN holds no seat -/
  still : ∀ r : SectionId, ¬ inSession s.floors[r] →
    s.floors[r].queue = [] ∧ s.floors[r].openSet = [] ∧ s.floors[r].holders = []
  /-- a floor has priority holders exactly while it is in PRIORITY -/
  priority : ∀ r : SectionId, s.floors[r].holders ≠ [] ↔ s.floors[r].state = .priority
  /-- the priority holders of a floor are seats of its room -/
  holderRooms : ∀ r : SectionId, ∀ i ∈ s.floors[r].holders, roomOfSeat s i = r
  /-- a floor in session holds the profile of its session -/
  profile : ∀ r : SectionId, inSession s.floors[r] → s.floors[r].profile.isSome = true ∧ s.floors[r].slot.isSome = true
  /-- only a floor in PRIORITY suspends -/
  suspended : ∀ i : SeatId, s.seats[i].mic = .suspended → s.floors[roomOfSeat s i].state = .priority
  /-- a seat that is not PRESENT on a RUNNING line is OFF, with gate and envelope 0 (R70), and holds no key (R6) -/
  notLive : ∀ i : SeatId, isLive s i = false →
    s.seats[i].mic = .off ∧ s.seats[i].gate = 0 ∧ s.seats[i].env = 0 ∧ s.seats[i].latch = none
  /-- seats in OFF or WAITING have gate 0, and seats in ON have gate 256 (R90) -/
  gates : ∀ i : SeatId,
    (s.seats[i].mic = .off ∨ s.seats[i].mic = .waiting → s.seats[i].gate = 0) ∧ (s.seats[i].mic = .on → s.seats[i].gate = 256)
  /-- the non-chair seats of an open set do not exceed max open (R49), nor the queue its cap (R48) -/
  limits : ∀ r : SectionId, ∀ p ∈ floorProfile s r, admittedCount s r ≤ p.maxOpen ∧ s.floors[r].queue.length ≤ p.queueCap
  /-- chairs do not join a queue (R48) -/
  chairs : ∀ i : SeatId, s.seats[i].mic = .waiting → s.cfg.seats[i].role = .delegate
  /-- the floor speaker is the one R69 names -/
  speaker : ∀ r : SectionId, s.floors[r].speaker = computeSpeaker s r
  /-- an INACTIVE floor holds no session -/
  inactive : ∀ r : SectionId, s.floors[r].state = .inactive → s.floors[r].slot = none ∧ s.floors[r].profile = none
  /-- only a room of the active plan has a floor in session -/
  rooms : ∀ r : SectionId, inSession s.floors[r] → isRoom s.planner.active r = true

/-- The Room Planner (R109): a target, affected sections and enabled latches exist during a drain alone, and the floors of the
affected rooms, and no others, are FROZEN in it. -/
structure PlannerOk (s : State) : Prop where
  idle : s.planner.state = .idle →
    s.planner.target = none ∧ s.planner.pendingPlan = none ∧ s.planner.affected = Vector.replicate 4 false ∧
      s.cal.held = Vector.replicate 4 false ∧ ∀ r : SectionId, s.floors[r].state ≠ .frozen
  draining : s.planner.state = .draining →
    (∃ p, s.planner.target = some p ∧ p ≠ s.planner.active ∧ s.planner.affected = affectedSections s.planner.active p) ∧
      s.cal.held = s.planner.affected ∧
      ∀ r ∈ affectedRooms s, s.floors[r].state = .frozen
  frozen : ∀ r : SectionId, s.floors[r].state = .frozen → s.planner.affected[r] = true
  latches : ∀ i : SeatId, s.seats[i].latchEnable = s.planner.affected[sectionOf i]

/-- The Standby Controller (R157, R158, R160): the wake timer runs in WAKING alone; a sleeping room has every seat OFF, no gate
and no envelope. -/
structure StandbyOk (s : State) : Prop where
  wake : s.standby.wake.isSome = true ↔ s.standby.room = .waking
  asleep : s.standby.room ≠ .active →
    (∀ i : SeatId, s.seats[i].mic = .off ∧ s.seats[i].gate = 0 ∧ s.seats[i].env = 0) ∧ s.standby.idle = 0
  /-- the idle timer is held at 0 while a seat is not OFF (R158) -/
  busy : (∃ i : SeatId, s.seats[i].mic ≠ .off) → s.standby.idle = 0

/-- Bookings and floors agree (R73, R74, R135): a booking in a session state has a room of the active plan as its range, and the
floor of that room names its slot; a floor in session holds the session of such a booking. -/
structure SessionsOk (s : State) : Prop where
  session : ∀ k : SlotId, ∀ b ∈ s.cal.slots[k], isSession b.state = true →
    rangeIsRoom s.planner.active b = true ∧ s.floors[b.first].slot = some k
  floor : ∀ r : SectionId, inSession s.floors[r] →
    ∃ k, s.floors[r].slot = some k ∧ ∃ b, s.cal.slots[k] = some b ∧ isSession b.state = true ∧ b.first = r ∧
      s.floors[r].profile = some b.profile

/-- The booking table (R128, R129, R152): bookings whose ranges meet have intervals that do not, and while room time is INVALID every
booking is open-end. -/
structure TableOk (s : State) : Prop where
  apart : ∀ j k : SlotId, j ≠ k → ∀ b ∈ s.cal.slots[j], ∀ c ∈ s.cal.slots[k],
    rangesMeet b.first b.last c.first c.last = true → (intervalOf b).meets (intervalOf c) = false
  timeless : s.cal.valid = false → ∀ k : SlotId, ∀ b ∈ s.cal.slots[k], b.duration = 0

/-- The invariant of the whole part, apart from the four queues of `QueuesOk`: what the blocks hold of one another between commands.
Its parts rest on one another, so it is kept as one. -/
structure PartOk (s : State) : Prop where
  config : ConfigOk s
  counts : CountsOk s
  lines : LinesOk s
  floors : FloorOk s
  planner : PlannerOk s
  standby : StandbyOk s
  sessions : SessionsOk s
  table : TableOk s

/-- No booking is in GRACE: an emptied open set then has no session to end (R138). -/
def noGrace (s : State) : Prop := ∀ k : SlotId, ∀ b ∈ s.cal.slots[k], b.state ≠ .grace

/-- A seat's leaving the open set of a room ends no session there: no booking is in GRACE, or another seat stays in the open set
(R138). -/
def outlives (s : State) (r : SectionId) (i : SeatId) : Prop := noGrace s ∨ ∃ e ∈ s.floors[r].openSet, e.seat ≠ i

/-- Nothing is left over from the last event at a floor: no head of the queue may be admitted (R60), and the floor speaker stands
(R69). -/
def settled (s : State) (r : SectionId) : Prop :=
  (mayAdvance s r = false ∨ s.floors[r].queue = []) ∧ s.floors[r].speaker = computeSpeaker s r

/-- A state in which an event at a floor stays with the floors: the invariants hold, nothing is posted, no replan drains, and no
booking is PENDING or in GRACE. -/
structure FloorsReady (s : State) : Prop where
  floors : FloorOk s
  lines : LinesOk s
  standby : StandbyOk s
  planner : PlannerOk s
  config : ConfigOk s
  idle : s.planner.state = .idle
  posted : s.mgmt.posted = []
  sessions : ∀ r : SectionId, inSession s.floors[r] → roomInSession s r = true
  bookings : ∀ k : SlotId, ∀ b ∈ s.cal.slots[k], b.state ≠ .pending ∧ b.state ≠ .grace

/-- The commands that act on floors and lines without changing a booking, a plan or the configuration by themselves. -/
def floorCommand : Instr → Bool
  | .hello _ _ => true
  | .key _ _ _ => true
  | .quiet _ => true
  | .missedTurn _ => true
  | .frameComputation => true
  | .silenceClose _ => true
  | .limitWarning _ => true
  | .limitReached _ => true
  | .deniedTimerExpiry _ => true
  | .seatOpen _ _ => true
  | .seatClose _ _ => true
  | .seatEnqueue _ _ => true
  | .seatDequeue _ _ => true
  | .floorClear _ _ => true
  | .lineFault _ => true
  | .lineRetry _ => true
  | .enumerationEnd _ => true
  | .lineStart _ _ => true
  | .lineStop _ _ => true
  | _ => false

/-- The command of a turn that gave a reply, or missed it (R4). -/
def turnCommand (i : SeatId) : Option SeatReply → Instr
  | some (.hello kind) => .hello i kind
  | some (.key e) => .key i e.key e.action
  | some .quiet => .quiet i
  | none => .missedTurn i

/-! ## What a key finds and leaves -/

/-- A key event of a seat reaches the Seat Table, and its seat kind has the key (R18, R26). -/
structure KeyHeard (s : State) (i : SeatId) (k : Key) : Prop where
  live : isLive s i = true
  mode : latchMode s i = .off
  kind : kindHasKey s.seats[i].kind k = true

/-- A key event that the Seat Table drops or ignores: a key that the seat's kind lacks; a PRESS by a LISTENER, and a DELEGATE's of any
key but TALK, CANCEL and SHARE; a RELEASE of any key but PRIORITY, and of PRIORITY by a seat that is neither a CHAIR nor a
priority holder of its room (R26 to R28). -/
def KeyDropped (s : State) (i : SeatId) (k : Key) (a : KeyAction) : Prop :=
  kindHasKey s.seats[i].kind k = false ∨
  (a = .press ∧ (s.cfg.seats[i].role = .listener ∨
    (s.cfg.seats[i].role = .delegate ∧ k ≠ .talk ∧ k ≠ .cancel ∧ k ≠ .share))) ∨
  (a = .release ∧ (k ≠ .priority ∨ (s.cfg.seats[i].role ≠ .chair ∧ i ∉ s.floors[roomOfSeat s i].holders)))

/-- The state when a key that is handed on has no further effect: the turn is judged, the miss count is 0, and the idle timer starts
again (R10, R30). -/
structure KeyWithout (s : State) (i : SeatId) (f : Seat → Seat) (t : State) : Prop where
  rest : t = { s with
    lines := t.lines
    seats := s.seats.set i (f { s.seats[i] with missCount := 0 })
    standby := { s.standby with idle := 0 } }
  lines : ∀ l : SectionId, t.lines[l] = { s.lines[l] with judged := t.lines[l].judged }

/-- A seat is in the open set of a room, with the mark given. -/
def hasEntry (s : State) (r : SectionId) (i : SeatId) (mark : Bool) : Prop :=
  ∃ e ∈ s.floors[r].openSet, e.seat = i ∧ e.priorityOpened = mark

/-- A seat stands as an admission leaves it (R46, R50). -/
structure Admitted (s : State) (r : SectionId) (i : SeatId) : Prop where
  mic : s.seats[i].mic = .opening
  entry : hasEntry s r i false
  speakSecs : s.seats[i].speakSecs = 0
  silence : s.seats[i].silence = 0
  limitWarning : s.seats[i].limitWarning = false

/-- A seat has joined the tail of a queue; auto-advance, when it is on, may have admitted it since (R48, R60). -/
structure Joined (s : State) (r : SectionId) (i : SeatId) (p : Profile) (t : State) : Prop where
  stands : (t.seats[i].mic = .waiting ∧ t.seats[i].gate = 0 ∧ i ∈ t.floors[r].queue) ∨ t.seats[i].mic = .opening
  tail : p.autoAdvance = false → t.seats[i].mic = .waiting ∧ t.floors[r].queue = s.floors[r].queue ++ [i]

/-- The mic state that a close leaves (R51). -/
def closedMic (x : Seat) : MicState := if x.mic = .suspended ∧ x.gate = 0 then .off else .closing

/-- A seat has been closed and has left the open set (R51). -/
structure Closed (s : State) (r : SectionId) (i : SeatId) (t : State) : Prop where
  mic : t.seats[i].mic = closedMic s.seats[i]
  out : i ∉ t.floors[r].openSet.map (·.seat)
  limitWarning : t.seats[i].limitWarning = false

/-- A holder of a floor in PRIORITY has released it: it has left the holders, a microphone that PRIORITY opened is closed, and with the
last holder gone the floor is NORMAL and its suspended seats resume (R66, R67). -/
structure ReleasedPriority (s : State) (r : SectionId) (i : SeatId) (t : State) : Prop where
  holders : t.floors[r].holders = s.floors[r].holders.filter (· != i)
  closed : hasEntry s r i true → isOpenMic s.seats[i].mic = true → Closed s r i t
  kept : ¬ hasEntry s r i true → s.seats[i].mic ≠ .suspended → t.seats[i].mic = s.seats[i].mic
  stays : s.floors[r].holders.filter (· != i) ≠ [] → t.floors[r].state = .priority
  returns : s.floors[r].holders.filter (· != i) = [] → t.floors[r].state = .normal ∧
    ∀ e ∈ s.floors[r].openSet, e.seat ≠ i → s.seats[e.seat].mic = .suspended → t.seats[e.seat].mic = .opening

/-- A DELEGATE in OFF whose envelope crosses the talk threshold of its room's profile in the computation of this state (R64, R88). -/
def crossesTalk (s : State) (p : Profile) (i : SeatId) : Bool :=
  s.cfg.seats[i].role == .delegate && isLive s i && s.seats[i].mic == .off && s.seats[i].env < p.talkThreshold &&
    p.talkThreshold ≤ nextEnvelope s.seats[i].env (s1Of s i)

/-- The seats of a room that cross the talk threshold and have a lower number than a seat. -/
def crossingBelow (s : State) (r : SectionId) (p : Profile) (i : SeatId) : List SeatId :=
  allSeats.filter fun j => j < i && roomOfSeat s j == r && crossesTalk s p j

/-- A seat's record has counted one frame in ON; 16,000 frames are a second, and the seconds stop at 65,535 (R61). -/
structure SpeakingCounted (x y : Seat) : Prop where
  part : x.speakPart + 1 < 16000 → y.speakPart = x.speakPart + 1 ∧ y.speakSecs = x.speakSecs
  second : 16000 ≤ x.speakPart + 1 → y.speakPart = 0 ∧ y.speakSecs = min 65535 (x.speakSecs + 1)

/-- A seat's record has counted one frame of silence, or a frame at or above the silence threshold has set the silence duration to 0;
the duration stops at 255 (R63). -/
structure SilenceCounted (loud : Prop) (x y : Seat) : Prop where
  heard : loud → y.silence = 0 ∧ y.silencePart = 0
  part : ¬ loud → x.silencePart + 1 < 16000 → y.silencePart = x.silencePart + 1 ∧ y.silence = x.silence
  second : ¬ loud → 16000 ≤ x.silencePart + 1 → y.silencePart = 0 ∧ y.silence = min 255 (x.silence + 1)

/-- What an evaluation makes of a booking that has ended: nothing for a ONCE booking, the next start for a WEEKLY one (R139). -/
def EndedIn (t : State) (k : SlotId) (b : Booking) : Prop :=
  match b.recurrence with
  | .once => t.cal.slots[k] = none
  | .weekly => ∃ x, (x = .scheduled ∨ x = .leadIn) ∧ t.cal.slots[k] = some { b with state := x, extension := 0 }

/-- The state of a booking whose time has come: it starts in an ACTIVE room when its range is a room that no replan holds, and waits
in PENDING otherwise (R134, R135). -/
def startedOrPending (s : State) (b : Booking) (now : Nat) : BookingState :=
  if s.standby.room = .active ∧ rangeIsRoom s.planner.active b = true ∧ isHeld s b = false then
    if endingHas s b now = true then .ending else .inSession
  else .pending

/-- A booking as CLOCK SET finds it: an open-end one, in PENDING or a session state, takes a length when room time was INVALID
(R153). -/
def lengthened (s : State) (minute : Nat) (b : Booking) : Booking :=
  if s.cal.valid = false ∧ b.duration = 0 ∧ (b.state = .pending ∨ isSession b.state = true) then
    { b with start := minute, duration := s.cfg.room.adHocDuration }
  else b

/-- A CLOCK SET carries a booking across its start: the interval contains the new now, and there was no old minute or the interval did
not contain it (R154). -/
def jumpedInto (s : State) (now : Nat) (b : Booking) : Bool :=
  (intervalOf b).has now && !(s.cal.valid && (intervalOf b).has s.cal.minute)

/-- The state in which the evaluation that follows leaves a booking just added or changed: started or PENDING when its interval contains
now, LEAD_IN in its lead-in window, and SCHEDULED otherwise (R145, R146). -/
def placedState (s : State) (b : Booking) : BookingState :=
  if (intervalOf b).has s.cal.minute = true then startedOrPending s b s.cal.minute
  else if leadInHas s b s.cal.minute = true then .leadIn
  else .scheduled

/-- A booking in a session state with 15 minutes more, in the state that its new end gives it; while room time is INVALID no time test is
made (R133, R148). -/
def extended (s : State) (b : Booking) : Booking :=
  let c := { b with extension := b.extension + 15 }
  if s.cal.valid = true then { c with state := if endingHas s c s.cal.minute = true then .ending else .inSession } else c

/-! ## The end of a GRACE session by its last close -/

/-- A room's session is in GRACE, past its end, with an open seat, none that auto-advance would admit, and no booking that waits to
start (R138). -/
structure InGrace (s : State) (r : SectionId) (k : SlotId) (b : Booking) : Prop where
  booking : s.cal.slots[k] = some b
  grace : b.state = .grace
  room : b.first = r
  free : isHeld s b = false
  valid : s.cal.valid = true
  past : (intervalOf b).has s.cal.minute = false
  opened : s.floors[r].openSet ≠ []
  waiting : s.floors[r].queue = [] ∨ ∀ p ∈ floorProfile s r, p.autoAdvance = false
  starts : ∀ j : SlotId, ∀ c ∈ s.cal.slots[j], c.state ≠ .pending

/-- The commands, requests apart, that close every open seat of a room (R51, R55, R56, R58, R62, R63, R66, R70). -/
def closesLast (s : State) (r : SectionId) (c : Instr) : Prop :=
  (∃ i k, c = .key i k .press ∧ KeyHeard s i k ∧ openSeats s r = [i] ∧ s.cfg.seats[i].role ≠ .listener ∧
    (((k = .talk ∨ k = .cancel) ∧ (s.seats[i].mic = .opening ∨ s.seats[i].mic = .on)) ∨
      (k = .talk ∧ s.cfg.seats[i].role = .delegate ∧ s.seats[i].mic = .suspended))) ∨
  (∃ i, c = .key i .clear .press ∧ KeyHeard s i .clear ∧ s.cfg.seats[i].role = .chair ∧ roomOfSeat s i = r ∧
    ∀ j ∈ openSeats s r, s.cfg.seats[j].role ≠ .chair) ∨
  (∃ i, c = .key i .priority .release ∧ KeyHeard s i .priority ∧ i ∈ s.floors[r].holders ∧ openSeats s r = [i] ∧
    hasEntry s r i true) ∨
  (∃ i, c = .missedTurn i ∧ openSeats s r = [i] ∧ s.seats[i].missCount + 1 = 3) ∨
  (∃ i p, floorProfile s r = some p ∧ openSeats s r = [i] ∧ s.seats[i].mic = .on ∧ s.cfg.seats[i].role ≠ .chair ∧
    ((c = .limitReached i ∧ p.speakLimit ≠ 0) ∨ (c = .silenceClose i ∧ silenceTime p ≠ 0)))

/-- The last open seat of a GRACE session was closed: the booking has ended, its floor is INACTIVE and empty, and the idle timer starts
again (R74, R138, R139, R158). -/
structure GraceOver (s : State) (r : SectionId) (k : SlotId) (b : Booking) (t : State) : Prop where
  ended : EndedIn t k b
  floor : t.floors[r] = Floor.idle
  seats : ∀ i : SeatId, roomOfSeat s i = r → t.seats[i].mic = .off ∨ t.seats[i].mic = .closing
  idle : t.standby.idle = 0

/-! ## The release of key latches -/

/-- The keys in the latches of some seats handed on, one after another, each as if it had just arrived (R20). -/
def handedOn (s : State) (is : List SeatId) (w : State) : State :=
  is.foldl (fun x i =>
    match s.seats[i].latch with
    | none => x
    | some e =>
      match exec (.key i e.key e.action) x with
      | .next y => y
      | _ => x) w

/-- The latches and overrun flags of some seats are empty. -/
def unlatched (is : List SeatId) (s : State) : State := forEach is emptyLatch s

/-- The latches of some seats of `s` were released in what led to `t`, which stands as `w`, the same event with those latches empty,
stands once the keys have been handed on (R20, R121, R165). Handing a key on is no judged turn. -/
structure Released (s : State) (is : List SeatId) (w t : State) : Prop where
  floors : t.floors = (handedOn s is w).floors ∧ t.admissions = (handedOn s is w).admissions
  cal : t.cal = (handedOn s is w).cal
  standby : t.standby = (handedOn s is w).standby
  video : t.video = (handedOn s is w).video
  rest : t.cfg = w.cfg ∧ t.planner = w.planner ∧ t.mix = w.mix ∧ t.trunk = w.trunk
  seats : ∀ i : SeatId, t.seats[i] = { (handedOn s is w).seats[i] with missCount := t.seats[i].missCount }
  empty : ∀ i ∈ is, t.seats[i].latch = none ∧ t.seats[i].overrun = false
  overrun : ∀ i ∈ is, s.seats[i].latch.isSome = true → s.seats[i].overrun = true → reported t ⟨.overrun, octet i.val, 0, 0⟩

/-! ## The timers of a frame period -/

/-- A frame period that begins here has nothing left over from the one before, and no superframe begins with it (R1, R3, R84). -/
structure MidSuperframe (s : State) : Prop where
  index : s.trunk.frameIndex < 8
  computed : s.mix.computed = true
  returned : ∀ l : SectionId, s.lines[l].awaiting = false

/-- Room time is at the last frame period of a minute (R124). -/
def minuteDue (s : State) : Prop := s.cal.valid = true ∧ 16000 ≤ s.cal.frame + 1 ∧ 60 ≤ s.cal.second + 1

/-- No timer but a DENIED timer, and no minute, ends in the frame period that begins. -/
structure TimersRun (s : State) : Prop where
  retry : ∀ l : SectionId, ∀ n ∈ s.lines[l].retry, n + 1 < 16000
  minute : ¬ minuteDue s
  wake : ∀ n ∈ s.standby.wake, n + 1 < 32000
  idle : s.standby.room = .active → s.standby.idle ≤ 115200000 ∧ s.standby.idle + 1 ≠ idleDelayFrames s
  replies : ∀ x ∈ s.video.inFlight, x.timer + 1 < 32000
  dwell : ∀ r : SectionId, ∀ n ∈ s.video.follow[r].dwell, 1 < n

/-- Every running timer, and room time, have counted one frame period; a DENIED timer that ends is stopped; the idle timer counts while
the room is ACTIVE with every seat OFF, and is 0 otherwise (R16, R34, R124, R158, R165, R174, R189). -/
structure TimersCounted (s t : State) : Prop where
  retry : ∀ l : SectionId, t.lines[l].retry = s.lines[l].retry.map (· + 1) ∧ t.lines[l].state = s.lines[l].state
  denied : ∀ i : SeatId, t.seats[i] =
    { s.seats[i] with denied := (s.seats[i].denied.map (· + 1)).filter fun n => decide (n < 16000) }
  time : t.cal =
    if s.cal.valid = false then s.cal
    else if s.cal.frame + 1 < 16000 then { s.cal with frame := s.cal.frame + 1 }
    else { s.cal with frame := 0, second := s.cal.second + 1 }
  standby : t.standby = ⟨s.standby.room,
    if s.standby.room = .active ∧ allOff s = true then min 115200000 (s.standby.idle + 1) else 0, s.standby.wake.map (· + 1)⟩
  replies : t.video.inFlight = s.video.inFlight.map fun x => { x with timer := x.timer + 1 }
  dwell : ∀ r : SectionId, t.video.follow[r] = { s.video.follow[r] with dwell := s.video.follow[r].dwell.map (· - 1) }
  rest : t.cfg = s.cfg ∧ t.floors = s.floors ∧ t.planner = s.planner ∧ t.video.queue = s.video.queue ∧
    t.video.cameras = s.video.cameras ∧ t.video.screens = s.video.screens

/-! ## What an apply point leaves at a floor in session -/

/-- The seats of a room keep their roles. -/
def rolesKept (s : State) (r : SectionId) (t : State) : Prop :=
  ∀ i : SeatId, roomOfSeat s i = r → t.cfg.seats[i].role = s.cfg.seats[i].role

/-- A seat that a change of its room's profile from `o` to `p` may close or warn: open, no chair, and of the same role (R40). -/
def keptOpen (s : State) (r : SectionId) (i : SeatId) (t : State) : Prop :=
  i ∈ openNonChairs s r ∧ t.cfg.seats[i].role = s.cfg.seats[i].role

/-- The profile of a floor in session has changed from `o` to `p` (R40, R41, R72). -/
structure ProfileTaken (s : State) (r : SectionId) (o p : Profile) (t : State) : Prop where
  /-- R41: VOICE empties the queue -/
  voice : p.mode = .voice → t.floors[r].queue = [] ∧ ∀ i ∈ s.floors[r].queue, t.seats[i].mic = .off
  /-- R41: the seats nearest the tail leave a queue above its cap -/
  trimmed : rolesKept s r t → p.mode ≠ .voice → p.autoAdvance = false →
    t.floors[r].queue = s.floors[r].queue.take p.queueCap ∧
      ∀ i ∈ s.floors[r].queue.drop p.queueCap, t.seats[i].mic = .off
  /-- R41, R72: the newest non-chairs above max open are closed -/
  fitted : rolesKept s r t → p.autoAdvance = false → limitChanged o p = false → silenceTime o = silenceTime p →
    openNonChairs t r = (openNonChairs s r).take p.maxOpen ∧
      ∀ i ∈ (openNonChairs s r).drop p.maxOpen, Closed s r i t
  /-- R41: the one auto-advance test comes last -/
  advanced : rolesKept s r t → p.mode ≠ .voice → p.autoAdvance = true → s.floors[r].state = .normal →
    limitChanged o p = false → silenceTime o = silenceTime p →
    t.floors[r].queue = (s.floors[r].queue.take p.queueCap).drop (p.maxOpen - admittedCount s r) ∧
      ∀ i ∈ (s.floors[r].queue.take p.queueCap).take (p.maxOpen - admittedCount s r), Admitted t r i
  /-- R40: at or above the new limit -/
  reached : ∀ i, keptOpen s r i t → limitChanged o p = true → (s.seats[i].mic = .on ∨ s.seats[i].mic = .suspended) →
    limitDue p s.seats[i] = true → Closed s r i t ∧ reported t ⟨.limit, octet i.val, 2, 0⟩
  /-- R40: past the new warning point and not yet warned -/
  warned : ∀ i, keptOpen s r i t → limitChanged o p = true → (s.seats[i].mic = .on ∨ s.seats[i].mic = .suspended) →
    limitDue p s.seats[i] = false → warningDue p s.seats[i] = true →
    reported t ⟨.limit, octet i.val, 1, 0⟩ ∧
      (t.seats[i].limitWarning = true ∨ i ∉ t.floors[r].openSet.map (·.seat))
  /-- R40: a warning that the new values do not give -/
  unwarned : ∀ i, keptOpen s r i t → limitChanged o p = true → (s.seats[i].mic = .on ∨ s.seats[i].mic = .suspended) →
    (warns p = false ∨ s.seats[i].speakSecs < warningPoint p) → t.seats[i].limitWarning = false
  /-- R40: a silence duration at or above the new close time -/
  silent : ∀ i, keptOpen s r i t → silenceTime o ≠ silenceTime p → silenceTime p ≠ 0 →
    silenceTime p ≤ s.seats[i].silence → Closed s r i t

/-- The role of a seat in the room of a floor in session has changed (R71). -/
structure RoleTaken (s : State) (r : SectionId) (p : Profile) (i : SeatId) (t : State) : Prop where
  toListener : t.cfg.seats[i].role = .listener →
    i ∉ t.floors[r].queue ∧ i ∉ t.floors[r].openSet.map (·.seat) ∧ i ∉ t.floors[r].holders ∧
      (s.seats[i].mic = .waiting → t.seats[i].mic = .off) ∧
      (isOpenMic s.seats[i].mic = true → Closed s r i t) ∧
      (s.seats[i].mic = .off ∨ s.seats[i].mic = .closing → t.seats[i].mic = s.seats[i].mic)
  toChair : s.cfg.seats[i].role = .delegate → t.cfg.seats[i].role = .chair →
    (s.seats[i].mic = .waiting → t.seats[i].mic = .off ∧ i ∉ t.floors[r].queue) ∧
      (isOpenMic s.seats[i].mic = true →
        t.seats[i].limitWarning = false ∧ i ∈ t.floors[r].openSet.map (·.seat) ∧
          t.seats[i].mic =
            if s.seats[i].mic = .suspended ∧ t.floors[r].state = .normal then .opening else s.seats[i].mic) ∧
      (s.seats[i].mic = .off ∨ s.seats[i].mic = .closing → t.seats[i].mic = s.seats[i].mic)
  /-- a holder stays a holder; any other open seat counts, and is suspended while the floor stays in PRIORITY -/
  toDelegate : s.cfg.seats[i].role = .chair → t.cfg.seats[i].role = .delegate →
    (i ∈ s.floors[r].holders → i ∈ t.floors[r].holders) ∧
      (i ∉ s.floors[r].holders → t.floors[r].state = .priority → isOpenMic s.seats[i].mic = true →
        t.seats[i].mic = .suspended ∨ i ∉ t.floors[r].openSet.map (·.seat)) ∧
      (s.seats[i].mic = .on ∨ s.seats[i].mic = .suspended → limitDue p s.seats[i] = true →
        i ∉ t.floors[r].openSet.map (·.seat) ∧ reported t ⟨.limit, octet i.val, 2, 0⟩) ∧
      (s.seats[i].mic = .on ∨ s.seats[i].mic = .suspended → s.seats[i].beenOn = true → limitDue p s.seats[i] = false →
        warningDue p s.seats[i] = true →
        reported t ⟨.limit, octet i.val, 1, 0⟩ ∧
          (t.seats[i].limitWarning = true ∨ i ∉ t.floors[r].openSet.map (·.seat)))
  fromListener : s.cfg.seats[i].role = .listener → (s.seats[i].mic = .off ∨ s.seats[i].mic = .closing) →
    t.seats[i].mic = s.seats[i].mic

/-- R67 at an apply point: every holder of a floor in PRIORITY has become a LISTENER, and the floor has resumed. -/
def ResumedByRoles (s : State) (r : SectionId) (t : State) : Prop :=
  s.floors[r].state = .priority →
  (∀ i ∈ s.floors[r].holders, t.cfg.seats[i].role = .listener ∧ s.cfg.seats[i].role ≠ .listener) →
  t.floors[r].state = .normal ∧ t.floors[r].holders = [] ∧
    ∀ e ∈ s.floors[r].openSet, s.seats[e.seat].mic = .suspended → t.cfg.seats[e.seat].role = s.cfg.seats[e.seat].role →
      t.seats[e.seat].mic = .opening ∨ e.seat ∉ t.floors[r].openSet.map (·.seat)

/-! ## What the Screen Director puts up -/

/-- A screen has a directive queued or in flight. -/
def onItsWay (t : State) (d : Directive) : Prop := d ∈ t.video.queue ++ t.video.inFlight.map (·.directive)

/-- A shot put up in a room leaves the follow records of the other rooms, and the room's own candidate and active share (R176). -/
structure FollowKept (s : State) (r : SectionId) (t : State) : Prop where
  others : ∀ x : SectionId, x ≠ r → t.video.follow[x] = s.video.follow[x]
  candidate : t.video.follow[r].candidate = s.video.follow[r].candidate
  share : t.video.follow[r].share = s.video.follow[r].share

/-- A shot whose camera was ready is the shown shot of a room; the dwell deadline starts, no RECALL of the camera stays unsent, and
each FOLLOW screen of a room in session that is on and shows another source has SHOW of the camera on its way, unless a POWER is
queued for it (R176; the exception by assumption 34). -/
structure ShotShown (s : State) (r : SectionId) (shot : Shot) (t : State) : Prop where
  shown : t.video.follow[r].shown = some shot
  awaited : t.video.follow[r].awaited = none
  dwell : ∀ p ∈ floorProfile s r, p.dwell ≠ 0 → t.video.follow[r].dwell = some (p.dwell * 16000)
  unsent : ∀ q, .recall shot.camera q ∉ t.video.queue
  screens : ∀ k : ScreenId, roomOfScreen s k = r → s.cfg.screens[k].mode = .follow → roomInSession s r = true →
    s.standby.room ≠ .standby → s.video.screens[k].power = true → s.video.screens[k].current ≠ .camera shot.camera →
    powerQueued k s.video = false → onItsWay t (.display k (.camera shot.camera))
  kept : FollowKept s r t

/-- A shot whose camera was not ready is awaited, with its RECALL on its way; the shown shot stands (R176). -/
structure ShotAwaited (s : State) (r : SectionId) (shot : Shot) (t : State) : Prop where
  awaited : t.video.follow[r].awaited = some shot
  shown : t.video.follow[r].shown = s.video.follow[r].shown
  moving : onItsWay t (.recall shot.camera shot.preset)
  kept : FollowKept s r t

/-- A shot has been put up in a room (R176). -/
def PutUp (s : State) (r : SectionId) (shot : Shot) (t : State) : Prop :=
  if cameraReady s shot.camera shot.preset = true then ShotShown s r shot t else ShotAwaited s r shot t

/-- The Screen Director has acted on the overview shot of a room, if it has one (R175). -/
structure OverviewActed (s : State) (r : SectionId) (t : State) : Prop where
  shot : ∀ o, overviewShot s r = some o → PutUp s r o t
  standing : overviewShot s r = none → t.video.follow[r].shown = s.video.follow[r].shown ∧ t.video.follow[r].awaited = none ∧
    FollowKept s r t

/-- The Screen Director has acted on the candidate of a room: its own shot, or else the overview (R175). -/
structure CandidateActed (s : State) (r : SectionId) (t : State) : Prop where
  shot : ∀ o, candidateShot s r = some o → PutUp s r o t
  overview : candidateShot s r = none → OverviewActed s r t

/-- A RECALL that a room awaited has failed: the Screen Director falls back to another overview shot, and else the awaited shot is
none; the failure changes neither the pending flag nor, where the overview shot is awaited in its turn, the dwell deadline
(R178). -/
structure FellBack (s : State) (r : SectionId) (failed : Shot) (t : State) : Prop where
  other : ∀ o, overviewShot s r = some o → o ≠ failed → PutUp s r o t
  record : t.video.follow[r].state = s.video.follow[r].state ∧ t.video.follow[r].pendingFlag = s.video.follow[r].pendingFlag
  dwell : ∀ o, overviewShot s r = some o → cameraReady s o.camera o.preset = false →
    t.video.follow[r].dwell = s.video.follow[r].dwell
  same : (overviewShot s r = none ∨ overviewShot s r = some failed) →
    t.video.follow = s.video.follow.set r { s.video.follow[r] with awaited := none }

/-! ## What a request finds and leaves -/

/-- The state at a request's owner block: the superframe's cell is taken, and the apply point of R197 has been made. -/
def afterApply (s : State) : State := applyPoint (markTaken s)

/-- A reply with its data cut or padded to the fourteen octets of a reply cell. -/
def replyOf (tag : Octet) (status : Status) (data : List Octet) : Option Reply := some ⟨tag, status, padded 14 data⟩

/-- The outcome of a request that its owner refuses after the apply point: the reply, with its data, and nothing else. -/
def refusedWith (u : State) (tag : Octet) (status : Status) (data : List Octet) : Outcome :=
  .next { u with mgmt := { u.mgmt with reply := replyOf tag status data } }

/-- The fields of a booking request name a start, a range, a profile and a recurrence (R145, step 2). -/
structure Names (q : BookingParams) (first last : SectionId) (p : ProfileId) (rec : Recurrence) : Prop where
  start : q.start.toNat ≤ 10079
  firstSection : finOf 4 q.first.toNat = some first
  lastSection : finOf 4 q.last.toNat = some last
  order : first ≤ last
  profile : finOf 8 q.profile.toNat = some p
  recurrence : recurrenceOf q.recurrence.toNat = some rec

/-- Some field of a booking request names nothing (R145, step 2). -/
def misnames (q : BookingParams) : Prop :=
  10079 < q.start.toNat ∨ 4 ≤ q.first.toNat ∨ 4 ≤ q.last.toNat ∨ q.last.toNat < q.first.toNat ∨ 8 ≤ q.profile.toNat ∨
    2 ≤ q.recurrence.toNat

/-- The duration of a booking request limited to 15–720 (R145, step 3). -/
def limitedTo (q : BookingParams) : Nat := max 15 (min 720 q.duration.toNat)

/-- OK, or CLAMPED for a duration that was limited (R145, R146). -/
def takenAs (q : BookingParams) : Status := if 15 ≤ q.duration.toNat ∧ q.duration.toNat ≤ 720 then .ok else .clamped

/-- The outcome of a WRITE that is refused: the reply, and nothing else (R199). -/
def turnedAway (s : State) (tag : Octet) (status : Status) : Outcome :=
  .next { s with mgmt := { s.mgmt with cellTaken := true, reply := replyOf tag status [] } }

/-- The outcome of a WRITE whose checks pass with a value to post: BUSY with eight writes posted, else posted with the apply timer
starting from 0 (R199, R200). -/
def postedOr (s : State) (tag : Octet) (w : Posted) (status : Status) : Outcome :=
  if s.mgmt.posted.length < 8 then .next { s with
    mgmt := { s.mgmt with
      cellTaken := true
      posted := s.mgmt.posted ++ [w]
      applyTimer := some 0
      applyFresh := true
      reply := replyOf tag status [] } }
  else turnedAway s tag .busy

/-- A READ is answered OK with the data, and changes nothing else of the state at its owner block (R198). -/
def ReadGives (s u : State) (tag table index field : Octet) (data : List Octet) : Prop :=
  exec (.read tag table index field) s = .next { u with mgmt := { u.mgmt with reply := replyOf tag .ok data } }

/-- A posted write is to the talk threshold of a profile. -/
def isTalkWrite (n : ProfileId) (w : Posted) : Bool := w.table == 1 && w.index == n.val && w.field == 8

/-- A command of the frame timing, or power-on: the commands that may take posted writes, or a request, in the course of a
superframe's end. -/
def endsSuperframe : Instr → Bool
  | .powerOn => true
  | .inboundTrunkFrame _ => true
  | .freeRunFramePeriod _ => true
  | .superframe => true
  | _ => false

/-- A cell that may carry any request. -/
def carriesRequest : Instr → Bool
  | .inboundCell _ => true
  | _ => false

/-- The link commands. -/
def movesLink : Instr → Bool
  | .linkDown => true
  | .linkUp => true
  | _ => false

/-- The commands that change clip counters (R102). -/
def movesClips : Instr → Bool
  | .frameComputation => true
  | .clearClips _ => true
  | .reset _ => true
  | _ => false

/-- The commands that set or advance room time (R124, R126). -/
def movesTime : Instr → Bool
  | .minuteBoundary => true
  | .clockSet _ _ _ => true
  | _ => false

/-- The commands that change line states (section 1.4). -/
def movesLines : Instr → Bool
  | .lineFrameReturn _ _ => true
  | .lineFault _ => true
  | .lineRetry _ => true
  | .enumerationEnd _ => true
  | .lineStart _ _ => true
  | .lineStop _ _ => true
  | .reset _ => true
  | _ => false

/-- The commands that may take a rebuild (R110, R117, R118). -/
def movesPlan : Instr → Bool
  | .dividerReport _ _ _ _ => true
  | .rebuild => true
  | .frameComputation => true
  | _ => false

/-- The commands by which seats are found or lost (R6, R7). -/
def movesPresence : Instr → Bool
  | .hello _ _ => true
  | .missedTurn _ => true
  | .lineFrameReturn _ _ => true
  | .lineFault _ => true
  | .lineRetry _ => true
  | .lineStart _ _ => true
  | .lineStop _ _ => true
  | .reset _ => true
  | _ => false

/-- Replies of seats, the ends of counts and timers of seats, rooms and standby, and media replies. -/
def roomCommand : Instr → Bool
  | .hello _ _ => true
  | .key _ _ _ => true
  | .quiet _ => true
  | .missedTurn _ => true
  | .silenceClose _ => true
  | .limitWarning _ => true
  | .limitReached _ => true
  | .deniedTimerExpiry _ => true
  | .idleTimerExpiry => true
  | .wakeTimerExpiry => true
  | .dwellExpiry _ => true
  | .done _ => true
  | .fail _ => true
  | .replyTimeout _ => true
  | .mediaMessageDiscard _ => true
  | _ => false

end Sys2Proof.Machine
end

