-- ==== Sys2Proof/WellFormed.lean ====
section
/-! DEFINITION. Which commands are well formed. An operand's type already holds seats, lines, rooms and targets to their
ranges, and the parameters of a request are any octets, which the part itself checks. Two commands claim something about what
was received: that a request code is undefined, and that a media message is one the part discards. -/

namespace Sys2Proof

/-- The command is what its row says it is. -/
def Instr.wellFormed : Instr → Bool
  | .badRequest _ code => !isRequestCode code.toNat
  | .mediaMessageDiscard m => (decodeMediaReply m).isNone
  | _ => true

end Sys2Proof
end

