-- ==== Sys2Proof/Certificates/Slice0/Obligations.lean ====
section
/-! DEFINITION. The statements for the provers. `afterApply s` is the state in which a request other than WRITE meets its owner
block: the superframe's cell is taken, and the apply point of R197 has been made. -/

open Sys2Proof Sys2Proof.Machine

/-! ## The machine -/

/-- A step takes the command at the front of the queue and carries it out with the queue's rest. With an empty queue the part
idles; this is the model's choice (assumption 2), since the manual gives no such step. -/
def Obligations.StepRunsTheFrontCommand : Prop :=
  (∀ (c : Instr) (rest : List Instr) (s : State), s.pending = c :: rest → step s = exec c { s with pending := rest }) ∧
  (∀ s : State, s.pending = [] → step s = .next s)

/-- Every command answers a next state in every state, and leaves the queue of commands alone. -/
def Obligations.EveryCommandCompletes : Prop :=
  ∀ (c : Instr) (s : State), ∃ t, exec c s = .next t ∧ t.pending = s.pending

/-- The state after reset meets every invariant stated below. -/
def Obligations.ResetMeetsTheInvariants : Prop :=
  QueuesOk State.reset ∧ ConfigOk State.reset ∧ CountsOk State.reset ∧ LinesOk State.reset ∧ FloorOk State.reset ∧
    PlannerOk State.reset ∧ StandbyOk State.reset ∧ SessionsOk State.reset ∧ TableOk State.reset ∧ PartOk State.reset

/-- Every step keeps the bounds and keys of the event queue, the posted write queue, the media queue and the in-flight list (R199,
R202, R186, R187). -/
def Obligations.StepKeepsTheQueues : Prop := ∀ s t : State, QueuesOk s → step s = .next t → QueuesOk t

/-- Every step keeps the configuration, and every posted write, within the ranges of the tables, each silence threshold at or
below its talk threshold, and each extension limit a multiple of 15 (R36, R37, R43, R199, R201). -/
def Obligations.StepKeepsTheConfiguration : Prop := ∀ s t : State, ConfigOk s → step s = .next t → ConfigOk t

/-- Every step keeps room time, the counts and the timers below the values at which the rules act on them, and every booking
record within its ranges, with its extension used a multiple of 15 (R127). -/
def Obligations.StepKeepsTheCounts : Prop :=
  ∀ s t : State, ConfigOk s → CountsOk s → step s = .next t → CountsOk t

/-- Every step keeps it so that only an ENUMERATING or RUNNING line sends frames, gives turns and has PRESENT seats, that the
retry timer runs in FAULT alone, and that the identify indication stands only at an ABSENT position of a RUNNING line. -/
def Obligations.StepKeepsTheLines : Prop := ∀ s t : State, LinesOk s → step s = .next t → LinesOk t

/-- Every step keeps the invariant of the whole part: the ranges of configuration and counts, the lines, the floor records and mic
states, the Room Planner and its freeze, the Standby Controller, the agreement of bookings and floors, and a booking table whose
bookings on meeting ranges lie apart in time. -/
def Obligations.StepKeepsThePart : Prop := ∀ s t : State, PartOk s → step s = .next t → PartOk t

/-- From a state in which the invariants hold, nothing is posted, no replan drains and no booking is PENDING or in GRACE
(`FloorsReady`), the commands of the floors and the lines leave the floor records and the mic states in agreement: who waits,
who is open, the limits of queue and open set, priority, gates, and the floor speaker (R46 to R51, R65 to R70, R90). -/
def Obligations.FloorCommandsKeepTheFloors : Prop :=
  ∀ (c : Instr) (s t : State), floorCommand c = true → FloorsReady s → exec c s = .next t → FloorOk t

/-- What each command leaves alone, outside the ends of superframes and inbound cells. The trunk is moved by the link
commands; clip counters change by frame computations, CLEAR CLIPS and the resets alone (R102); room time by minute boundaries
and CLOCK SET (R124, R126); line states by the lines' own commands and RESET (section 1.4); the active plan by a rebuild
(R108), which a report or a frame computation may bring about; presence by finds and losses (R6, R7), and the seat kind by a
HELLO alone (R7, R9). -/
def Obligations.WhatCommandsLeave : Prop :=
  ∀ (c : Instr) (s t : State), endsSuperframe c = false → carriesRequest c = false → exec c s = .next t →
    (movesLink c = false → t.trunk = s.trunk) ∧
    (movesClips c = false → t.mix.clips = s.mix.clips) ∧
    (movesTime c = false → t.cal.valid = s.cal.valid ∧ t.cal.minute = s.cal.minute ∧ t.cal.second = s.cal.second ∧
      t.cal.frame = s.cal.frame) ∧
    (movesLines c = false → ∀ l : SectionId, t.lines[l].state = s.lines[l].state) ∧
    (movesPlan c = false → t.planner.active = s.planner.active) ∧
    (movesPresence c = false → ∀ i : SeatId, t.seats[i].present = s.seats[i].present) ∧
    ((∀ i k, c ≠ .hello i k) → ∀ i : SeatId, t.seats[i].kind = s.seats[i].kind)

/-- The replies of a seat, the counts and timers of seats, rooms and standby, and the media replies leave the configuration,
the trunk, the Room Planner, the clip counters, room time (its minute, second, frame count and validity, R124), the hold of the
calendar, the posted writes, the reply store and the outbound cell alone; and, where their operands name things that exist,
all of them but DONE and a reply timeout leave the runtime records of cameras and screens. -/
def Obligations.WhatRoomCommandsLeave : Prop :=
  ∀ (c : Instr) (s t : State), roomCommand c = true → exec c s = .next t →
    t.cfg = s.cfg ∧ t.trunk = s.trunk ∧ t.fresh = s.fresh ∧ t.planner = s.planner ∧ t.mix.clips = s.mix.clips ∧
    t.cal.held = s.cal.held ∧ t.cal.valid = s.cal.valid ∧ t.cal.minute = s.cal.minute ∧ t.cal.second = s.cal.second ∧
    t.cal.frame = s.cal.frame ∧ t.mgmt.posted = s.mgmt.posted ∧
    t.mgmt.applyTimer = s.mgmt.applyTimer ∧ t.mgmt.reply = s.mgmt.reply ∧ t.mgmt.outCell = s.mgmt.outCell ∧
    (c.wellFormed = true → (∀ x, c ≠ .done x ∧ c ≠ .replyTimeout x) →
      t.video.cameras = s.video.cameras ∧ t.video.screens = s.video.screens)

/-! ## Power-on and reset -/

/-- What power-on leaves: lines ENUMERATING, seats ABSENT and OFF, floors INACTIVE, one room, room time INVALID, no booking,
room ACTIVE, clip counters 0, link DOWN, the RESYNC mark set, no camera at a preset, every screen BLANK with power OFF and
POWER ON on its way to it, follow records FOLLOWING with nothing shown. That a seat's loudspeaker sample and part-second
counts are 0 is the model's choice (assumption 19). -/
def Obligations.PowerOnValues : Prop :=
  ∀ s : State, ∃ t, exec .powerOn s = .next t ∧
    (∀ l : SectionId, t.lines[l].state = .enumerating ∧ t.lines[l].turn = 0 ∧ t.lines[l].enumCount = 0) ∧
    (∀ i : SeatId, t.seats[i] = Seat.powerOn) ∧
    (∀ r : SectionId, t.floors[r] = Floor.idle) ∧ t.admissions = 0 ∧
    (∀ c : Fin 12, t.mix.clips[c] = 0) ∧
    t.planner.active = ⟨.opened, .opened, .opened⟩ ∧ t.planner.state = .idle ∧
    t.cal.valid = false ∧ (∀ k : SlotId, t.cal.slots[k] = none) ∧
    t.standby = ⟨.active, 0, none⟩ ∧
    (∀ c : CameraId, t.video.cameras[c] = ⟨none, false⟩) ∧
    (∀ k : ScreenId, t.video.screens[k] = ⟨.blank, false, false⟩ ∧
      .power k true ∈ t.video.queue ++ t.video.inFlight.map (·.directive)) ∧
    (∀ r : SectionId, t.video.follow[r] = ⟨.following, none, none, none, none, false, none⟩) ∧
    t.mgmt.posted = [] ∧ t.mgmt.applyTimer = none ∧ t.mgmt.reply = none ∧ t.mgmt.resync = true ∧
    t.trunk.link = .down ∧ t.trunk.miss = 0 ∧ t.trunk.upCount = 0 ∧ t.trunk.timing = .freeRun ∧ t.trunk.frameIndex = 0 ∧
    t.cfg = Tables.powerOn

/-- A soft reset: what every block takes, and what it keeps (R205 and the rules its table names). That a seat's loudspeaker
sample and part-second counts become 0, and that the cells of the superframe in progress stay, is the model's choice
(assumptions 16 and 19). With an idle delay of at least one minute (R43), the room stands ACTIVE with the idle timer at 0 and
no wake (R166); cameras, unresponsive flags and follow records are as at power-on but for what a session that starts again
shows (R190); a GRACE booking has ended, and any other session goes on in its room or waits in PENDING for it (R156). -/
def Obligations.SoftResetValues : Prop :=
  ∀ (tag : Octet) (s u : State), afterApply s = u → ∃ t, exec (.reset tag) s = .next t ∧
    t.cfg = u.cfg ∧ t.trunk = u.trunk ∧
    t.mgmt.posted = [] ∧ t.mgmt.applyTimer = none ∧ t.mgmt.resync = true ∧ t.mgmt.reply = replyOf tag .ok [] ∧
    (∀ l : SectionId, t.lines[l].state = if u.lines[l].state = .stopped then .stopped else .enumerating) ∧
    (∀ i : SeatId, t.seats[i] = { Seat.powerOn with kind := u.seats[i].kind }) ∧
    (∀ c : Fin 12, t.mix.clips[c] = 0) ∧
    t.planner = { Planner.powerOn with active := u.planner.active } ∧
    t.cal.valid = u.cal.valid ∧ t.cal.minute = u.cal.minute ∧ t.cal.second = u.cal.second ∧ t.cal.frame = u.cal.frame ∧
    (∀ k : ScreenId, t.video.screens[k].power = u.video.screens[k].power ∧ t.video.screens[k].current = .blank) ∧
    (∀ r : SectionId, t.floors[r].queue = [] ∧ t.floors[r].openSet = [] ∧ t.floors[r].holders = []) ∧
    (1 ≤ u.cfg.room.idleDelay →
      t.standby = ⟨.active, 0, none⟩ ∧
      (∀ c : CameraId, t.video.cameras[c] = ⟨none, false⟩) ∧ (∀ k : ScreenId, t.video.screens[k].unresponsive = false) ∧
      (∀ r : SectionId, t.video.follow[r].state = .following ∧ t.video.follow[r].candidate = none ∧
        t.video.follow[r].share = none ∧ t.video.follow[r].pendingFlag = false) ∧
      (∀ r : SectionId, (∀ k : SlotId, ∀ b ∈ t.cal.slots[k], isSession b.state = true → b.first ≠ r) →
        t.video.follow[r] = ⟨.following, none, none, none, none, false, none⟩) ∧
      t.cal.held = Vector.replicate 4 false ∧
      (∀ k : SlotId, ∀ b ∈ t.cal.slots[k], b.state ≠ .grace) ∧
      (∀ k : SlotId, ∀ b ∈ u.cal.slots[k], b.state = .grace → EndedIn t k b) ∧
      (∀ k : SlotId, ∀ b ∈ u.cal.slots[k], (b.state = .inSession ∨ b.state = .ending) →
        (u.cal.valid = true → (intervalOf b).has u.cal.minute = true) →
        ∃ x, t.cal.slots[k] = some { b with state := x } ∧
          if rangeIsRoom u.planner.active b = true then x = .inSession ∨ x = .ending else x = .pending))

/-! ## Configuration and requests of the Management Unit -/

/-- Outside the ends of superframes, the configuration changes in one way: an apply point takes every posted write (R199,
R201). In every state APPLY is such an apply point and is answered OK, and so is the expiry of the apply timer where the timer
runs: every posted write takes effect, the queue is empty and the timer stopped (R200, R201, R204). -/
def Obligations.ConfigurationChangesAtApplyPoints : Prop :=
  (∀ (c : Instr) (s t : State), endsSuperframe c = false → exec c s = .next t →
    t.cfg = s.cfg ∨
      (s.mgmt.posted ≠ [] ∧ t.cfg = tablesAfter s.cfg s.mgmt.posted ∧ t.mgmt.posted = [] ∧ t.mgmt.applyTimer = none)) ∧
  (∀ (tag : Octet) (s : State), ∃ t, exec (.apply tag) s = .next t ∧
    t.cfg = (if s.mgmt.posted = [] then s.cfg else tablesAfter s.cfg s.mgmt.posted) ∧
    t.mgmt.posted = [] ∧ t.mgmt.applyTimer = none ∧ t.mgmt.reply = replyOf tag .ok []) ∧
  (∀ s : State, s.mgmt.applyTimer.isSome = true → ∃ t, exec .applyTimerExpiry s = .next t ∧
    t.cfg = (if s.mgmt.posted = [] then s.cfg else tablesAfter s.cfg s.mgmt.posted) ∧
    t.mgmt.posted = [] ∧ t.mgmt.applyTimer = none)

/-- APPLY, and the expiry of a running apply timer, are apply points: every posted write takes effect, the queue is empty and the
timer stopped (R200, R201, R204). A share ends when its owner's share input changed (R181). In a state of the part without a
GRACE session no other share ends while the room state stands, and at a floor in session: a changed profile empties or trims
the queue, closes the newest non-chairs above max open, admits from the queue last, and warns, unwarns and closes open seats by
the new speak limit, limit warning and silence close time (R40, R41, R72); a role change acts by the rows of R71; when every
holder becomes a LISTENER the suspended seats resume (R67); and with profile and roles unchanged the queue and the open set
stand. That a close time which a change of floor mode gives counts as a changed one is the model's choice (assumption 35). -/
def Obligations.ApplyTakesThePostedWrites : Prop :=
  ∀ (tag : Octet) (s : State),
    (∃ t, exec (.apply tag) s = .next t ∧
      t.cfg = (if s.mgmt.posted = [] then s.cfg else tablesAfter s.cfg s.mgmt.posted) ∧
      t.mgmt.posted = [] ∧ t.mgmt.applyTimer = none ∧ t.mgmt.reply = replyOf tag .ok [] ∧
      (∀ (i : SeatId) (r : SectionId) (x : ShareInput), t.cfg.seats[i].share ≠ s.cfg.seats[i].share →
        t.video.follow[r].share ≠ some ⟨i, x⟩) ∧
      (PartOk s → noGrace s →
        (∀ (r : SectionId) (i : SeatId) (x : ShareInput), s.video.follow[r].share = some ⟨i, x⟩ →
          t.cfg.seats[i].share = s.cfg.seats[i].share → t.standby.room = s.standby.room →
          t.video.follow[r].share = some ⟨i, x⟩) ∧
        ∀ (r : SectionId) (n : ProfileId) (o p : Profile), inSession s.floors[r] → s.floors[r].profile = some n →
          s.cfg.profiles[n] = o → t.cfg.profiles[n] = p →
          (o ≠ p → ProfileTaken s r o p t) ∧
          (∀ i : SeatId, roomOfSeat s i = r → t.cfg.seats[i].role ≠ s.cfg.seats[i].role → RoleTaken s r p i t) ∧
          ResumedByRoles s r t ∧
          (o ≠ p ∨ ¬ rolesKept s r t → settled t r) ∧
          (o = p → rolesKept s r t → t.floors[r].queue = s.floors[r].queue ∧ openSeats t r = openSeats s r))) ∧
    (s.mgmt.applyTimer.isSome = true → ∃ t, exec .applyTimerExpiry s = .next t ∧
      t.cfg = (if s.mgmt.posted = [] then s.cfg else tablesAfter s.cfg s.mgmt.posted) ∧
      t.mgmt.posted = [] ∧ t.mgmt.applyTimer = none)

/-- WRITE, by its checks in their order: an undefined table, a read-only table, an index, a field, a runtime field, and a
value that an enumerated field does not define, among them every value above FFh in a field of one octet, are refused without
effect; a numeric value is limited to its range, an extension limit rounded down to a multiple of 15, and a silence threshold
limited by the talk threshold of its profile as the next apply point will leave it; with eight writes posted the answer is
BUSY; else the value is posted, the apply timer starts from 0, and nothing else changes (R37, R199, R210). -/
def Obligations.WriteRequests : Prop :=
  (∀ (tag table index field : Octet) (value : Half) (s : State),
    (tableEntries table.toNat = none → exec (.write tag table index field value) s = turnedAway s tag .badTable) ∧
    ∀ n, tableEntries table.toNat = some n →
      (readOnlyTable table.toNat = true → exec (.write tag table index field value) s = turnedAway s tag .readOnly) ∧
      (readOnlyTable table.toNat = false →
        (n ≤ index.toNat → exec (.write tag table index field value) s = turnedAway s tag .badIndex) ∧
        (index.toNat < n →
          (fieldOf table.toNat field.toNat = none →
            exec (.write tag table index field value) s = turnedAway s tag .badField) ∧
          (fieldOf table.toNat field.toNat = some .runtime →
            exec (.write tag table index field value) s = turnedAway s tag .readOnly) ∧
          (fieldOf table.toNat field.toNat = some .enumerated →
            (definesValue table.toNat field.toNat value.toNat = false →
              exec (.write tag table index field value) s = turnedAway s tag .badValue) ∧
            (definesValue table.toNat field.toNat value.toNat = true →
              exec (.write tag table index field value) s =
                postedOr s tag ⟨table.toNat, index.toNat, field.toNat, value.toNat⟩ .ok)) ∧
          ∀ lo hi v, fieldOf table.toNat field.toNat = some (.numeric lo hi) →
            v = (if table.toNat = 1 ∧ field.toNat = 16 then max lo (min hi value.toNat) / 15 * 15
              else if table.toNat = 1 ∧ field.toNat = 9 then min (max lo (min hi value.toNat)) (postedTalk s index.toNat)
              else max lo (min hi value.toNat)) →
            exec (.write tag table index field value) s =
              postedOr s tag ⟨table.toNat, index.toNat, field.toNat, v⟩ (if v = value.toNat then .ok else .clamped)))) ∧
  (∀ table field value : Nat, fieldOf table field = some .enumerated → ¬ (table = 5 ∧ field = 2) → 255 < value →
    definesValue table field value = false) ∧
  (∀ (s : State) (n : ProfileId),
    ((∀ w ∈ s.mgmt.posted, isTalkWrite n w = false) → postedTalk s n.val = s.cfg.profiles[n].talkThreshold) ∧
    (∀ v pre post, s.mgmt.posted = pre ++ ⟨1, n.val, 8, v⟩ :: post → (∀ w ∈ post, isTalkWrite n w = false) →
      postedTalk s n.val = v))

/-- A READ changes nothing but the reply, and the model's count of free values, beyond its apply point. It is checked for
table, index, field and an empty slot, in this order, and answered with the number of fields carried and the fields from the
one named on: said here, field by field, for the reads of every table that give an entry whole, a seat and a profile in two
(R198, 11.5). That a camera's current preset of none is carried as FFh is the model's reading (assumption 26). -/
def Obligations.ReadRequests : Prop :=
  (∀ (tag table index field : Octet) (s u : State), afterApply s = u → ∃ (r : Option Reply) (n : Nat),
      exec (.read tag table index field) s = .next { u with mgmt := { u.mgmt with reply := r }, fresh := n } ∧
      (tableEntries table.toNat = none → r = replyOf tag .badTable []) ∧
      ∀ m, tableEntries table.toNat = some m →
        (m ≤ index.toNat → r = replyOf tag .badIndex []) ∧
        (index.toNat < m →
          (fieldOf table.toNat field.toNat = none → r = replyOf tag .badField []) ∧
          ((fieldOf table.toNat field.toNat).isSome = true → table = 7 → ∀ k : SlotId, index.toNat = k.val →
            u.cal.slots[k] = none → r = replyOf tag .notFound []))) ∧
  (∀ (tag : Octet) (s u : State), afterApply s = u →
    (∀ i : SeatId,
      ReadGives s u tag 0 (octet i.val) 0 ([10, octet (roleCode u.cfg.seats[i].role)] ++ twoOctets u.cfg.seats[i].gain ++
        twoOctets u.cfg.seats[i].volume ++ [octet (optCode u.cfg.seats[i].camera), octet u.cfg.seats[i].preset.val,
          octet (optCode u.cfg.seats[i].share), u.cfg.seats[i].nameplate, octet (flagCode u.seats[i].present),
          octet (seatKindCode u.seats[i].kind), octet (micCode u.seats[i].mic)]) ∧
      ReadGives s u tag 0 (octet i.val) 10 ([6] ++ twoOctets u.seats[i].gate ++ twoOctets u.seats[i].env ++
        [octet (queuePosition u i)] ++ twoOctets u.seats[i].speakSecs ++
        [octet u.seats[i].silence, octet (noticeCode (noticeOf u i))])) ∧
    (∀ (n : ProfileId) (p : Profile), u.cfg.profiles[n] = p →
      ReadGives s u tag 1 (octet n.val) 0 ([9, octet (floorModeCode p.mode), octet p.maxOpen, octet p.queueCap,
        octet (flagCode p.autoAdvance), octet (fullPolicyCode p.fullPolicy)] ++ twoOctets p.speakLimit ++
        twoOctets p.limitWarning ++ [octet p.silenceClose] ++ twoOctets p.talkThreshold) ∧
      ReadGives s u tag 1 (octet n.val) 9 ([8] ++ twoOctets p.silenceThreshold ++ [octet (flagCode p.nom)] ++ twoOctets p.duck ++
        [octet p.dwell, octet (sharePermissionCode p.sharePermission), octet p.grace, octet p.endingWarning,
          octet p.extensionLimit])) ∧
    ReadGives s u tag 2 0 0 [6, octet u.cfg.room.standbyLead, octet u.cfg.room.idleDelay, octet u.cfg.room.leadIn,
      octet (optCode u.cfg.room.adHocProfile), octet u.cfg.room.adHocDuration, octet u.cfg.room.lockedHorizon] ∧
    (∀ x : SectionId, ReadGives s u tag 3 (octet x.val) 0 ([3] ++ twoOctets u.cfg.sections[x].feedLevel ++
      [octet (optCode u.cfg.sections[x].overviewCamera), octet u.cfg.sections[x].overviewPreset.val])) ∧
    (∀ c : CameraId, ReadGives s u tag 4 (octet c.val) 0 [4, octet u.cfg.cameraHome[c].val,
      octet (optCode u.video.cameras[c].preset),
      octet (flagCode (flightFor u.video (.camera c)).isSome), octet (flagCode u.video.cameras[c].unresponsive)]) ∧
    (∀ k : ScreenId, ReadGives s u tag 5 (octet k.val) 0 ([6, octet u.cfg.screens[k].home.val,
      octet (screenModeCode u.cfg.screens[k].mode)] ++ twoOctets (sourceCode u.cfg.screens[k].fixed) ++
      twoOctets (sourceCode u.video.screens[k].current) ++
      [octet (flagCode u.video.screens[k].power), octet (flagCode u.video.screens[k].unresponsive)])) ∧
    (∀ p : Fin 4, ReadGives s u tag 6 (octet p.val) 0 ([2, octet (homeCode u.cfg.programs[p].home)] ++
      twoOctets u.cfg.programs[p].gain)) ∧
    (∀ (k : SlotId) (b : Booking), u.cal.slots[k] = some b → b.duration ≠ 0 →
      ∃ n, ReadGives s { u with fresh := n } tag 7 (octet k.val) 0
        ([8, octet (16 * bookingStateCode b.state + b.profile.val)] ++ twoOctets b.start ++ twoOctets b.duration ++
          [octet (64 * b.first.val + 16 * b.last.val + 4 * flagCode (b.recurrence == .weekly) +
            2 * flagCode (b.origin == .adHoc) + flagCode (isLocked u b)), b.title, octet b.extension] ++
          twoOctets ((b.start + b.duration + b.extension) % 10080) ++ twoOctets u.cal.minute ++
          [octet (128 * flagCode u.cal.valid + u.cal.second)])) ∧
    (∀ c : Fin 12, ReadGives s u tag 8 (octet c.val) 0 ([1] ++ twoOctets u.mix.clips[c])))

/-- CLEAR CLIPS sets all twelve clip counters to 0, is answered OK, and changes nothing else beyond its apply point (R104). -/
def Obligations.ClearClips : Prop :=
  ∀ (tag : Octet) (s u : State), afterApply s = u →
    exec (.clearClips tag) s = .next { u with
      mix := { u.mix with clips := Vector.replicate 12 0 }
      mgmt := { u.mgmt with reply := replyOf tag .ok [] } }

/-- An event that is raised: with its kind and subject queued it replaces that entry in its place; else it joins the tail of a
queue of fewer than 48 entries; else it is dropped and the RESYNC mark is set (R202). -/
def Obligations.EventQueue : Prop :=
  ∀ (e : Event) (m : Mgmt),
    (∀ old ahead behind, m.events = ahead ++ old :: behind → old.key = e.key → (∀ x ∈ ahead ++ behind, x.key ≠ e.key) →
      queueEvent e m = { m with events := ahead ++ e :: behind }) ∧
    ((∀ x ∈ m.events, x.key ≠ e.key) →
      (m.events.length < 48 → queueEvent e m = { m with events := m.events ++ [e] }) ∧
      (48 ≤ m.events.length → queueEvent e m = { m with resync := true }))

/-! ## Trunk -/

/-- A frame period counts valid and missing inbound frames: 160 missing in a row take an UP link DOWN, and 16 valid in a row bring
a DOWN link UP (R193, R194).
The link commands: a DOWN link has no program samples and both counts at 0; an UP link sets the RESYNC mark (R193, R194). -/
def Obligations.LinkStates : Prop :=
  (∀ (c : Instr) (f : Option TrunkIn) (s : State), c = .inboundTrunkFrame f ∨ c = .freeRunFramePeriod f →
      ∃ t, exec c s = .next t ∧
        (s.trunk.link = .up → (validInbound f).isSome = true → t.trunk.link = .up ∧ t.trunk.miss = 0) ∧
        (s.trunk.link = .up → (validInbound f).isSome = false → s.trunk.miss + 1 < 160 →
          t.trunk.link = .up ∧ t.trunk.miss = s.trunk.miss + 1 ∧ ∀ p : Fin 4, t.trunk.programs[p] = 0) ∧
        (s.trunk.link = .up → (validInbound f).isSome = false → s.trunk.miss + 1 = 160 →
          t.trunk.link = .down ∧ t.trunk.miss = 0 ∧ t.trunk.upCount = 0) ∧
        (s.trunk.link = .down → (validInbound f).isSome = true → s.trunk.upCount + 1 < 16 →
          t.trunk.link = .down ∧ t.trunk.upCount = s.trunk.upCount + 1) ∧
        (s.trunk.link = .down → (validInbound f).isSome = true → s.trunk.upCount + 1 = 16 →
          t.trunk.link = .up ∧ t.trunk.upCount = 0 ∧ t.mgmt.resync = true) ∧
        (s.trunk.link = .down → (validInbound f).isSome = false → t.trunk.link = .down ∧ t.trunk.upCount = 0)) ∧
  (∀ s : State,
      (s.trunk.link = .up → ∃ t, exec .linkDown s = .next t ∧
        t = { s with trunk := t.trunk } ∧ t.trunk.link = .down ∧ t.trunk.miss = 0 ∧ t.trunk.upCount = 0 ∧
        t.trunk.timing = .freeRun ∧ (∀ p : Fin 4, t.trunk.programs[p] = 0) ∧ t.trunk.frameIndex = s.trunk.frameIndex) ∧
      (s.trunk.link = .down → ∃ t, exec .linkUp s = .next t ∧
        t = { s with trunk := t.trunk, mgmt := { s.mgmt with resync := true } } ∧
        t.trunk.link = .up ∧ t.trunk.miss = 0 ∧ t.trunk.upCount = 0 ∧ t.trunk.frameIndex = s.trunk.frameIndex))

/-- Every frame period sends one outbound trunk frame, in every link state and room state: its index is the next of the
superframe, 0 after eight; octets 2k and 2k + 1 of the outbound cell ride in frame k; its check is correct; in an ACTIVE room
that stays ACTIVE its channels are the feeds; and, said here within a superframe, they are 0 while the room is not ACTIVE
(R191, R195, R208). -/
def Obligations.FramePeriodSendsAFrame : Prop :=
  ∀ (c : Instr) (f : Option TrunkIn) (s : State), c = .inboundTrunkFrame f ∨ c = .freeRunFramePeriod f →
    ∃ t o, exec c s = .next t ∧ t.trunk.sent = some o ∧
      o.index = octet (if s.trunk.frameIndex < 8 then s.trunk.frameIndex else 0) ∧ o.index.toNat < 8 ∧
      t.trunk.frameIndex = o.index.toNat + 1 ∧
      o.cell0 = t.mgmt.outCell.toList.getD (2 * o.index.toNat) 0 ∧
      o.cell1 = t.mgmt.outCell.toList.getD (2 * o.index.toNat + 1) 0 ∧
      checkHolds ([o.index] ++ (o.channels.toList.flatMap fun w => [highOctet w, lowOctet w]) ++ [o.cell0, o.cell1, o.check])
        = true ∧
      (s.standby.room = .active → t.standby.room = .active → o.channels = t.mix.feeds) ∧
      (s.standby.room ≠ .active → s.trunk.frameIndex < 8 → ∀ x : Fin 8, o.channels[x] = 0)

/-- A frame period begun inside a superframe, with nothing left over from the one before. Where no timer ends, every running
timer and room time have counted it, and floors, queues and records stand (R16, R34, R124, R158, R165, R174, R189).
At its end value each acts: the retry timer makes the line ENUMERATING (R16); a DENIED timer stops (R34); room time passes to
the next minute (R124); the wake timer makes the room ACTIVE (R165); the idle timer takes a room that meets the entry
conditions into STANDBY (R159, R160); each reply timer raises TIMEOUT, marks its target and takes the directive out (R189);
and a dwell deadline ends, and with the pending flag set the candidate is acted on (R174). -/
def Obligations.FramePeriodTimers : Prop :=
  ∀ (c : Instr) (f : Option TrunkIn) (s : State), c = .inboundTrunkFrame f ∨ c = .freeRunFramePeriod f → MidSuperframe s →
    ∃ t, exec c s = .next t ∧
      (TimersRun s → TimersCounted s t) ∧
      (∀ (l : SectionId) (n : Nat), s.lines[l].retry = some n → 16000 ≤ n + 1 →
        t.lines[l].state = .enumerating ∧ t.lines[l].enumCount = 0 ∧ t.lines[l].retry = none) ∧
      (minuteDue s → t.cal.valid = true ∧ t.cal.minute = (s.cal.minute + 1) % 10080 ∧ t.cal.second = 0 ∧ t.cal.frame = 0) ∧
      (∀ n : Nat, s.standby.room = .waking → s.standby.wake = some n → 32000 ≤ n + 1 → 1 ≤ s.cfg.room.idleDelay →
        t.standby.room = .active ∧ t.standby.wake = none) ∧
      (LinesOk s → CountsOk s → s.standby.room = .active → s.standby.wake = none → (∀ i : SeatId, s.seats[i].mic = .off) →
        s.standby.idle + 1 = idleDelayFrames s → s.cal.valid = true → tableQuiet s = true → s.planner.state = .idle →
        (∀ k : SlotId, ∀ b ∈ s.cal.slots[k], leadInHas s b s.cal.minute = false) → ¬ minuteDue s →
        t.standby = ⟨.standby, 0, none⟩) ∧
      (∀ x ∈ s.video.inFlight, 32000 ≤ x.timer + 1 →
        reported t ⟨.media, octet (targetCode (targetOfDirective x.directive)), 2, 0⟩ ∧
        (∀ k : ScreenId, targetOfDirective x.directive = .screen k → t.video.screens[k].unresponsive = true) ∧
        (∀ k : CameraId, targetOfDirective x.directive = .camera k → t.video.cameras[k].unresponsive = true)) ∧
      (∀ x ∈ t.video.inFlight, x.timer < 32000) ∧
      (∀ r : SectionId, s.video.follow[r].dwell = some 1 → TimersRun (modFollow r (fun y => { y with dwell := none }) s) →
        (∀ x : SectionId, x ≠ r → s.video.follow[x].dwell = none) →
        (s.video.follow[r].pendingFlag = false ∨ s.video.follow[r].state = .held →
          t.video.follow[r] = { s.video.follow[r] with dwell := none }) ∧
        (s.video.follow[r].pendingFlag = true → s.video.follow[r].state = .following →
          t.video.follow[r].pendingFlag = false ∧ CandidateActed s r t))

/-- A superframe begins: an ENUMERATING line gives a turn, and so does a RUNNING line, in STANDBY once in four superframes
(the poll phase then passes from 0 to 1). A line that gives a turn sends the seat state cell of its turn position, every other
line the cell that names no position (R3, R17).
The outbound cell is chosen as the superframe before it ends, in the state `superframeEnd s`: EMPTY on a DOWN link; on an UP
link the reply, which leaves the reply store, else the oldest event, which leaves the queue, with the RESYNC mark, which is
then cleared, else the mark alone, else EMPTY (R195).
At the end of a turn superframe of a RUNNING line the turn position advances by one, wrapping from 15 to 0; otherwise it
stands (R3). On an ENUMERATING line the enumeration count advances with it, and at the end of the 32nd superframe the line is
RUNNING with turn position 0 (R13). The apply timer counts the superframe, unless it carried the WRITE, and the 32nd is an apply
point (R200). A turn that no command has judged is judged from the upstream octets, as the command that they spell would have
it, or as a missed turn (R4); with no such turn, no seat, floor or booking changes. No inbound cell is taken in these clauses,
since its request could set them back, and the judging is said with no apply timer running and one line at a turn. -/
def Obligations.Superframes : Prop :=
  (∀ s : State, ∃ t, exec .superframe s = .next t ∧ t.trunk.frameIndex = 0 ∧ t.trunk.inCell = [] ∧
      (∀ l : SectionId,
        (t.lines[l].turnNow = true ↔ t.lines[l].state = .enumerating ∨
          (t.lines[l].state = .running ∧ (t.standby.room ≠ .standby ∨ t.lines[l].pollPhase = 1))) ∧
        t.lines[l].down =
          if t.lines[l].turnNow = true then seatCell t (seatAt l t.lines[l].turn) else noPositionCell) ∧
      (s.trunk.link = .down → t.mgmt.outCell = Vector.replicate 16 0) ∧
      (∀ m, (superframeEnd s).mgmt = m → s.trunk.link = .up →
        (∀ r, m.reply = some r → t.mgmt.outCell = replyCell r ∧ t.mgmt.reply = none ∧ t.mgmt.events = m.events ∧
          t.mgmt.resync = m.resync) ∧
        (m.reply = none →
          (∀ e rest, m.events = e :: rest → t.mgmt.outCell = eventCell m.resync (some e) ∧ t.mgmt.reply = none ∧
            t.mgmt.events = rest ∧ t.mgmt.resync = false) ∧
          (m.events = [] → t.mgmt.outCell = (if m.resync = true then eventCell true none else emptyCell) ∧
            t.mgmt.reply = none ∧ t.mgmt.events = [] ∧ t.mgmt.resync = false)))) ∧
  (∀ (s : State) (l : SectionId), s.trunk.upFromStart = false → s.lines[l].state = .running →
      ∃ t, exec .superframe s = .next t ∧ t.lines[l].state = .running ∧
        t.lines[l].turn = if s.lines[l].turnNow = true then s.lines[l].turn + 1 else s.lines[l].turn) ∧
  (∀ s : State, s.trunk.upFromStart = false → ∃ t, exec .superframe s = .next t ∧
      (s.mgmt.applyTimer = none → t.mgmt.applyTimer = none ∧ t.mgmt.posted = s.mgmt.posted ∧ t.cfg = s.cfg) ∧
      (∀ n, s.mgmt.applyTimer = some n →
        (s.mgmt.applyFresh = true → t.mgmt.applyTimer = some n ∧ t.mgmt.applyFresh = false ∧
          t.mgmt.posted = s.mgmt.posted ∧ t.cfg = s.cfg) ∧
        (s.mgmt.applyFresh = false → n + 1 < 32 → t.mgmt.applyTimer = some (n + 1) ∧ t.mgmt.posted = s.mgmt.posted ∧
          t.cfg = s.cfg) ∧
        (s.mgmt.applyFresh = false → 32 ≤ n + 1 → t.mgmt.applyTimer = none ∧ t.mgmt.posted = [] ∧
          t.cfg = if s.mgmt.posted = [] then s.cfg else tablesAfter s.cfg s.mgmt.posted))) ∧
  (∀ (s : State) (l : SectionId), s.trunk.upFromStart = false → s.lines[l].state = .enumerating →
      ∃ t, exec .superframe s = .next t ∧
        (s.lines[l].turnNow = true → s.lines[l].enumCount + 1 < 32 → t.lines[l].state = .enumerating ∧
          t.lines[l].enumCount = s.lines[l].enumCount + 1 ∧ t.lines[l].turn = s.lines[l].turn + 1) ∧
        (s.lines[l].turnNow = true → 32 ≤ s.lines[l].enumCount + 1 → t.lines[l].state = .running ∧ t.lines[l].turn = 0 ∧
          reported (superframeEnd s) ⟨.line, octet l.val, 2, 0⟩) ∧
        (s.lines[l].turnNow = false → t.lines[l].state = .enumerating ∧
          t.lines[l].enumCount = s.lines[l].enumCount ∧ t.lines[l].turn = s.lines[l].turn)) ∧
  (∀ s : State, s.trunk.upFromStart = false → s.mgmt.applyTimer = none →
      (∀ l : SectionId, isPolled s.lines[l] = true → s.lines[l].turnNow = true → s.lines[l].judged = false →
        (∀ m : SectionId, m ≠ l → isPolled s.lines[m] = false ∨ s.lines[m].turnNow = false) →
        ∃ t w, exec .superframe s = .next t ∧
          exec (turnCommand (seatAt l s.lines[l].turn) (decodeSeatReply s.lines[l].up)) s = .next w ∧
          t.seats = w.seats ∧ t.floors = w.floors ∧ t.cal = w.cal ∧ t.standby = w.standby ∧ t.video = w.video ∧
          t.planner = w.planner ∧ t.mix = w.mix ∧ t.cfg = w.cfg) ∧
      ((∀ l : SectionId, isPolled s.lines[l] = true → s.lines[l].turnNow = true → s.lines[l].judged = true) →
        ∃ t, exec .superframe s = .next t ∧ t.seats = s.seats ∧ t.floors = s.floors ∧ t.cal = s.cal ∧
          t.standby = s.standby ∧ t.video = s.video ∧ t.planner = s.planner))

/-- A received inbound cell: a REQUEST is the request it spells, and any other kind is ignored; a cell of a superframe in
which the link was not UP from its start, or a frame period had no valid inbound frame, is discarded (R195, R196, R209).
A request cell whose code names no request is answered BAD_REQUEST, without an apply point (R196, R197). -/
def Obligations.InboundCells : Prop :=
  (∀ (cell : Vector Octet 16) (s : State),
      (s.trunk.upFromStart = true → s.trunk.inCell.length = 2 * s.trunk.frameIndex → cell[0].toNat / 16 = 1 →
        exec (.inboundCell cell) s = exec (decodeRequest cell.toList) s) ∧
      (s.trunk.upFromStart = true → s.trunk.inCell.length = 2 * s.trunk.frameIndex → cell[0].toNat / 16 ≠ 1 →
        exec (.inboundCell cell) s = .next { s with mgmt := { s.mgmt with cellTaken := true } }) ∧
      (s.trunk.upFromStart = false ∨ s.trunk.inCell.length ≠ 2 * s.trunk.frameIndex →
        exec (.inboundCell cell) s = .next s)) ∧
  (∀ (tag code : Octet) (s : State), isRequestCode code.toNat = false →
      exec (.badRequest tag code) s = .next { s with
        mgmt := { s.mgmt with cellTaken := true, reply := replyOf tag .badRequest [] } })

/-! ## Seat lines -/

/-- A frame that returns valid sets the return monitor to 0, and hands on the samples of the seats PRESENT on a RUNNING line and
the upstream cell octet; one that returns invalid before the 64th in a row adds 1 to the monitor and hands on silence; a line that
sends no frames takes none (R1, R2, R15). -/
def Obligations.LineFrameReturns : Prop :=
  ∀ (l : SectionId) (f : LineIn) (s : State),
    (isPolled s.lines[l] = true → exec (.lineFrameReturn l (some f)) s = .next { s with
      lines := s.lines.set l { s.lines[l] with
        awaiting := false
        monitor := 0
        mic := Vector.ofFn fun p : Position => if isLive s (seatAt l p) = true then f.slots[p] else 0
        up := s.lines[l].up ++ [f.cell] } }) ∧
    (isPolled s.lines[l] = true → s.lines[l].monitor + 1 < 64 →
      exec (.lineFrameReturn l none) s = .next { s with
        lines := s.lines.set l { s.lines[l] with
          awaiting := false, monitor := s.lines[l].monitor + 1, mic := Vector.replicate 16 0 } }) ∧
    (isPolled s.lines[l] = false →
      exec (.lineFrameReturn l (some f)) s = .next s ∧ exec (.lineFrameReturn l none) s = .next s)

/-- A line fault, which the 64th invalid frame in a row makes: every seat of the line is ABSENT and OFF with no identify
indication, no frame is sent, the monitor is 0, and the retry timer starts at 0 (R15).
LINE START, and the retry of a line in FAULT: the line is ENUMERATING from its first superframe with turn position 0, and
every seat of it is ABSENT with no identify indication (R12, R16). The end of an enumeration: the line is RUNNING, turns
continue with position 0, and every seat keeps its record (R13).
LINE STOP: the line is STOPPED, sends no frames, and its seats are ABSENT; a line already STOPPED changes nothing (R14). -/
def Obligations.LineStates : Prop :=
  (∀ (l : SectionId) (s : State) (c : Instr), isPolled s.lines[l] = true →
    (c = .lineFault l ∨ (c = .lineFrameReturn l none ∧ s.lines[l].monitor + 1 = 64)) →
    ∃ t, exec c s = .next t ∧ t.lines[l].state = .fault ∧ t.lines[l].retry = some 0 ∧ t.lines[l].monitor = 0 ∧
      t.lines[l].sent = none ∧ t.lines[l].mic = Vector.replicate 16 0 ∧
      (∀ i : SeatId, sectionOf i = l → t.seats[i].present = false ∧ t.seats[i].identify = false ∧
        (s.seats[i].present = true → t.seats[i].mic = .off ∧ t.seats[i].latch = none)) ∧
      (∀ m : SectionId, m ≠ l → t.lines[m].state = s.lines[m].state) ∧
      reported t ⟨.line, octet l.val, 3, 0⟩) ∧
  (∀ (tag : Octet) (l : SectionId) (s u : State) (c : Instr),
      ((c = .lineStart tag (octet l.val) ∧ u = afterApply s) ∨ (c = .lineRetry l ∧ u = s ∧ s.lines[l].state = .fault)) →
      ∃ t, exec c s = .next t ∧ t.lines[l].state = .enumerating ∧ t.lines[l].enumCount = 0 ∧ t.lines[l].turn = 0 ∧
        t.lines[l].monitor = 0 ∧ t.lines[l].retry = none ∧
        (∀ i : SeatId, sectionOf i = l → t.seats[i].present = false ∧ t.seats[i].identify = false ∧
          (u.seats[i].present = true → t.seats[i].mic = .off)) ∧
        (∀ m : SectionId, m ≠ l → t.lines[m].state = u.lines[m].state) ∧
        (c = .lineStart tag (octet l.val) → t.mgmt.reply = replyOf tag .ok [])) ∧
  (∀ (l : SectionId) (s : State), s.lines[l].state = .enumerating →
      ∃ t, exec (.enumerationEnd l) s = .next t ∧ t.lines[l].state = .running ∧ t.lines[l].turn = 0 ∧
        (∀ m : SectionId, m ≠ l → t.lines[m] = s.lines[m]) ∧
        t = { s with lines := t.lines, mgmt := queueEvent ⟨.line, octet l.val, 2, 0⟩ s.mgmt }) ∧
  (∀ (tag : Octet) (l : SectionId) (s u : State), afterApply s = u →
    (u.lines[l].state = .stopped → exec (.lineStop tag (octet l.val)) s = .next { u with
      mgmt := { u.mgmt with reply := replyOf tag .ok [] } }) ∧
    (u.lines[l].state ≠ .stopped → ∃ t, exec (.lineStop tag (octet l.val)) s = .next t ∧
      t.lines[l].state = .stopped ∧ t.lines[l].sent = none ∧ t.lines[l].retry = none ∧
      (∀ i : SeatId, sectionOf i = l → t.seats[i].present = false ∧ t.seats[i].identify = false ∧
        (u.seats[i].present = true → t.seats[i].mic = .off) ∧ t.seats[i].kind = u.seats[i].kind) ∧
      t.cfg = u.cfg ∧ t.mgmt.reply = replyOf tag .ok [] ∧ reported t ⟨.line, octet l.val, 0, 0⟩))

/-- A valid HELLO from an ABSENT position finds the seat: PRESENT, miss count 0, its kind recorded, no identify indication, OFF,
gate and envelope 0, with a PRESENCE event; every other seat, every floor and the configuration stand (R7).
A HELLO from a PRESENT position: on an ENUMERATING line with the kind already recorded, only the miss count returns to 0; on a
RUNNING line, or with another kind, the seat is lost and found again, and stands OFF in no queue, no open set and no holder list
(R9). -/
def Obligations.Hellos : Prop :=
  (∀ (i : SeatId) (kind : SeatKind) (s : State),
      isPolled s.lines[sectionOf i] = true → s.seats[i].present = false → s.seats[i].mic = .off →
      ∃ t, exec (.hello i kind) s = .next t ∧
        t.seats[i].present = true ∧ t.seats[i].kind = kind ∧ t.seats[i].missCount = 0 ∧ t.seats[i].identify = false ∧
        t.seats[i].mic = .off ∧ t.seats[i].gate = 0 ∧ t.seats[i].env = 0 ∧
        (∀ j : SeatId, j ≠ i → t.seats[j] = s.seats[j]) ∧
        t = { s with
          lines := t.lines
          seats := t.seats
          mgmt := queueEvent ⟨.presence, octet i.val, 1, octet (seatKindCode kind)⟩ s.mgmt } ∧
        (∀ l : SectionId, t.lines[l] = { s.lines[l] with judged := t.lines[l].judged })) ∧
  (∀ (i : SeatId) (kind : SeatKind) (s : State), s.seats[i].present = true →
      (s.lines[sectionOf i].state = .enumerating → s.seats[i].kind = kind → ∃ t, exec (.hello i kind) s = .next t ∧
        t = { s with lines := t.lines, seats := s.seats.set i { s.seats[i] with missCount := 0 } } ∧
        (∀ l : SectionId, t.lines[l] = { s.lines[l] with judged := t.lines[l].judged })) ∧
      (s.lines[sectionOf i].state = .running ∨ (s.lines[sectionOf i].state = .enumerating ∧ s.seats[i].kind ≠ kind) →
        ∃ t, exec (.hello i kind) s = .next t ∧ t.seats[i].present = true ∧ t.seats[i].kind = kind ∧ t.seats[i].mic = .off ∧
          t.seats[i].gate = 0 ∧ t.seats[i].env = 0 ∧ t.seats[i].latch = none ∧ t.seats[i].missCount = 0 ∧
          i ∉ t.floors[roomOfSeat s i].queue ∧ i ∉ t.floors[roomOfSeat s i].openSet.map (·.seat) ∧
          i ∉ t.floors[roomOfSeat s i].holders))

/-- A valid KEY or QUIET from an ABSENT position changes nothing but the identify indication, which it sets on a RUNNING line; a
QUIET from a PRESENT position, and a KEY from one on an ENUMERATING line, change nothing but the miss count, which they set to 0
(R8, R10). The same holds of the keys that the Seat Table drops or ignores: a key that the seat's kind lacks, every PRESS by a
LISTENER, a DELEGATE's of any key but TALK, CANCEL and SHARE, every RELEASE of another key than PRIORITY, and a PRIORITY RELEASE
by a seat that is neither a CHAIR nor a holder; none of them is seat activity (R26 to R28). -/
def Obligations.RepliesWithoutEffect : Prop :=
  ∀ (i : SeatId) (k : Key) (a : KeyAction) (s : State),
    (∀ c, c = .key i k a ∨ c = .quiet i → s.seats[i].present = false → s.lines[sectionOf i].state = .running →
      ∃ t, exec c s = .next t ∧ t = { s with lines := t.lines, seats := s.seats.set i { s.seats[i] with identify := true } } ∧
        (∀ l : SectionId, t.lines[l] = { s.lines[l] with judged := t.lines[l].judged })) ∧
    (∀ c, c = .key i k a ∨ c = .quiet i → s.seats[i].present = false → s.lines[sectionOf i].state = .enumerating →
      ∃ t, exec c s = .next t ∧ t = { s with lines := t.lines } ∧
        (∀ l : SectionId, t.lines[l] = { s.lines[l] with judged := t.lines[l].judged })) ∧
    (∀ c, (c = .key i k a ∧ s.lines[sectionOf i].state = .enumerating) ∨
        (c = .quiet i ∧ isPolled s.lines[sectionOf i] = true) → s.seats[i].present = true →
      ∃ t, exec c s = .next t ∧ t = { s with lines := t.lines, seats := s.seats.set i { s.seats[i] with missCount := 0 } } ∧
        (∀ l : SectionId, t.lines[l] = { s.lines[l] with judged := t.lines[l].judged })) ∧
    (isLive s i = true → latchMode s i = .off → KeyDropped s i k a →
      ∃ t, exec (.key i k a) s = .next t ∧
        t = { s with lines := t.lines, seats := s.seats.set i { s.seats[i] with missCount := 0 } } ∧
        (∀ l : SectionId, t.lines[l] = { s.lines[l] with judged := t.lines[l].judged }))

/-- A key under latch mode ALL is stored in the seat's latch: an empty latch is filled and the overrun flag not changed; a
full latch takes the new event and the overrun flag is set; nothing else changes but the miss count. Under TALK_ONLY a TALK
PRESS is stored and wakes the room, and every other key event is dropped (R10, R18, R19, R164).
The release of latched keys at the end of a wake, and at a rebuild in an ACTIVE room without a pending plan: each is handled
as if it had just arrived, in increasing seat number, after everything the event does without them; the latches and overrun
flags are empty, and each flag that was set has raised an OVERRUN event (R20, R121, R165). A replan within a request in
STANDBY or WAKING hands no key on: in WAKING the latches stand; in STANDBY a latched TALK PRESS stays and wakes the room, and
any other event is dropped, with an OVERRUN event for a set flag (R20, R122). There no booking is near, so that the calendar
wakes nothing. The counts are those of `CountsOk` where keys are handed on: a flag stands only with a full latch (R19). -/
def Obligations.KeyLatches : Prop :=
  (∀ (i : SeatId) (k : Key) (a : KeyAction) (s : State),
    s.seats[i].present = true → s.lines[sectionOf i].state = .running →
    (latchMode s i = .all → ∃ t, exec (.key i k a) s = .next t ∧
      t = { s with
        lines := t.lines
        seats := s.seats.set i { s.seats[i] with
          missCount := 0
          latch := some ⟨k, a⟩
          overrun := if s.seats[i].latch = none then s.seats[i].overrun else true } } ∧
      (∀ l : SectionId, t.lines[l] = { s.lines[l] with judged := t.lines[l].judged })) ∧
    (latchMode s i = .talkOnly → k = .talk → a = .press → ∃ t, exec (.key i k a) s = .next t ∧
      t.seats[i].latch = some ⟨.talk, .press⟩ ∧ t.standby.room = .waking ∧ t.standby.wake = some 0) ∧
    (latchMode s i = .talkOnly → ¬ (k = .talk ∧ a = .press) → ∃ t, exec (.key i k a) s = .next t ∧
      t = { s with lines := t.lines, seats := s.seats.set i { s.seats[i] with missCount := 0 } } ∧
      (∀ l : SectionId, t.lines[l] = { s.lines[l] with judged := t.lines[l].judged }))) ∧
  (∀ (s : State) (is : List SeatId), CountsOk s → s.standby.wake.isSome = true → 1 ≤ s.cfg.room.idleDelay →
    is = allSeats.filter (fun i => !s.seats[i].latchEnable) → (∀ i ∈ is, s.seats[i].latch.isSome = true → isLive s i = true) →
    ∃ t w, exec .wakeTimerExpiry s = .next t ∧ exec .wakeTimerExpiry (unlatched is s) = .next w ∧ Released s is w t) ∧
  (∀ (s : State) (p : Plan) (is : List SeatId), CountsOk s → s.planner.state = .draining → s.planner.target = some p →
    s.planner.pendingPlan = none → drainOver s = true → s.standby.room = .active → 1 ≤ s.cfg.room.idleDelay →
    is = affectedSeats s → (∀ i ∈ is, s.seats[i].latch.isSome = true → isLive s i = true) →
    ∃ t w, exec .rebuild s = .next t ∧ exec .rebuild (unlatched is s) = .next w ∧
      (w.standby.room = .active → Released s is w t)) ∧
  (∀ (tag ab bc cd : Octet) (p : Plan) (s u : State), afterApply s = u → planOf ab bc cd = some p →
    u.planner.state = .idle → u.planner.pendingPlan = none → p ≠ u.planner.active → u.standby.room ≠ .active →
    (∀ i : SeatId, u.seats[i].gate = 0) →
    (∀ k : SlotId, ∀ b ∈ u.cal.slots[k], b.state = .scheduled ∧ leadInHas u b u.cal.minute = false) →
    ∃ t, exec (.dividerReport tag ab bc cd) s = .next t ∧
      ∀ i : SeatId,
        (isAffected u.planner.active p (sectionOf i) = false ∨ u.standby.room = .waking ∨ u.seats[i].latch = none ∨
            u.seats[i].latch = some ⟨.talk, .press⟩ →
          t.seats[i].latch = u.seats[i].latch ∧ t.seats[i].overrun = u.seats[i].overrun) ∧
        (isAffected u.planner.active p (sectionOf i) = true → u.standby.room = .standby →
          (u.seats[i].latch = some ⟨.talk, .press⟩ → t.standby.room = .waking) ∧
          (∀ e, u.seats[i].latch = some e → e ≠ ⟨.talk, .press⟩ → t.seats[i].latch = none ∧ t.seats[i].overrun = false ∧
            (u.seats[i].overrun = true → reported t ⟨.overrun, octet i.val, 0, 0⟩))))

/-- The octets of a seat state cell: the position; the mic lamp, DARK in STANDBY and for a LISTENER, and otherwise READY,
BLINK, LIT or FLASH by the mic state (R31); the queue position, from 1 at the head, or 0 (R32); the notice, the first that
applies of IDENTIFY, DENIED, LIMIT_WARN, SESSION_ENDING and NONE (R33); the nameplate of the room's floor speaker, or 0 (R32);
and 00h. -/
def Obligations.SeatStateCells : Prop :=
  ∀ (s : State) (i : SeatId) (r : SectionId) (x : Vector Octet 8), roomOfSeat s i = r → seatCell s i = x →
    x[0] = octet (positionOf i).val ∧
    (s.standby.room = .standby ∨ s.cfg.seats[i].role = .listener → x[1] = 0) ∧
    (s.standby.room ≠ .standby → s.cfg.seats[i].role ≠ .listener →
      (s.seats[i].mic = .off ∨ s.seats[i].mic = .closing → x[1] = 1) ∧ (s.seats[i].mic = .waiting → x[1] = 2) ∧
      (s.seats[i].mic = .opening ∨ s.seats[i].mic = .on → x[1] = 3) ∧ (s.seats[i].mic = .suspended → x[1] = 4)) ∧
    (s.seats[i].mic ≠ .waiting → x[2] = 0) ∧
    (∀ ahead behind, s.seats[i].mic = .waiting → s.floors[r].queue = ahead ++ i :: behind → i ∉ ahead →
      x[2] = octet (ahead.length + 1)) ∧
    (s.lines[sectionOf i].state = .enumerating ∨ s.seats[i].identify = true → x[3] = 4) ∧
    (s.lines[sectionOf i].state ≠ .enumerating → s.seats[i].identify = false →
      (s.seats[i].denied.isSome = true → x[3] = 1) ∧
      (s.seats[i].denied = none → s.seats[i].limitWarning = true → x[3] = 2) ∧
      (s.seats[i].denied = none → s.seats[i].limitWarning = false → SessionsOk s →
        ((∃ k : SlotId, ∃ b ∈ s.cal.slots[k], b.first = r ∧ (b.state = .ending ∨ b.state = .grace)) → x[3] = 3) ∧
        ((∀ k : SlotId, ∀ b ∈ s.cal.slots[k], b.first = r → b.state ≠ .ending ∧ b.state ≠ .grace) → x[3] = 0))) ∧
    (s.floors[r].speaker = none → x[4] = 0) ∧ (∀ j, s.floors[r].speaker = some j → x[4] = s.cfg.seats[j].nameplate) ∧
    x[5] = 0 ∧ x[6] = 0

/-- A missed turn of a PRESENT position adds 1 to its miss count; the third loses the seat, which becomes ABSENT and OFF with
gate and envelope 0 and an empty latch; a missed turn of an ABSENT position has no effect (R5, R6, R70). -/
def Obligations.MissedTurn : Prop :=
  ∀ (i : SeatId) (s : State), isPolled s.lines[sectionOf i] = true →
    (s.seats[i].present = true → s.seats[i].missCount + 1 < 3 → ∃ t, exec (.missedTurn i) s = .next t ∧
      t = { s with lines := t.lines, seats := s.seats.set i { s.seats[i] with missCount := s.seats[i].missCount + 1 } } ∧
      (∀ l : SectionId, t.lines[l] = { s.lines[l] with judged := t.lines[l].judged })) ∧
    (s.seats[i].present = true → s.seats[i].missCount + 1 = 3 → ∃ t, exec (.missedTurn i) s = .next t ∧
      t.seats[i].present = false ∧ t.seats[i].missCount = 0 ∧ t.seats[i].mic = .off ∧ t.seats[i].gate = 0 ∧
      t.seats[i].env = 0 ∧ t.seats[i].latch = none ∧ t.seats[i].overrun = false ∧ t.seats[i].denied = none ∧
      i ∉ t.floors[roomOfSeat s i].queue ∧ i ∉ t.floors[roomOfSeat s i].openSet.map (·.seat) ∧
      reported t ⟨.presence, octet i.val, 0, 0⟩) ∧
    (s.seats[i].present = false → ∃ t, exec (.missedTurn i) s = .next t ∧ t = { s with lines := t.lines } ∧
      (∀ l : SectionId, t.lines[l] = { s.lines[l] with judged := t.lines[l].judged }))

/-! ## The floor -/

/-- The floor keys of a DELEGATE in a room in session. TALK PRESS from OFF or CLOSING at a NORMAL floor: below max, OPEN and
VOICE modes admit the seat; REQUEST mode, and OPEN mode at max under the policy QUEUE, join it to a queue with room; OPEN mode
at max under REPLACE_OLDEST closes the oldest non-chair and admits it (R50, R53, R54). At a floor in PRIORITY the press queues
in REQUEST mode and under QUEUE, and is refused with DENIED otherwise (R68). From WAITING, TALK and CANCEL withdraw the seat;
from OPENING and ON both close it, from SUSPENDED only TALK; CANCEL has no other effect (R55). The press is seat activity
(R30). -/
def Obligations.DelegateKeys : Prop :=
  ∀ (i : SeatId) (s : State) (r : SectionId) (p : Profile), isLive s i = true → latchMode s i = .off →
    s.cfg.seats[i].role = .delegate → roomOfSeat s i = r → floorProfile s r = some p →
    ((s.seats[i].mic = .off ∨ s.seats[i].mic = .closing) → roomInSession s r = true → s.floors[r].state = .normal →
      ∃ t, exec (.key i .talk .press) s = .next t ∧ t.standby.idle = 0 ∧
        (p.mode ≠ .request → admittedCount s r < p.maxOpen → Admitted t r i) ∧
        ((p.mode = .request ∨ (p.mode = .openMode ∧ p.fullPolicy = .queue ∧ p.maxOpen ≤ admittedCount s r)) →
          p.queueCap ≠ 0 → s.floors[r].queue.length < p.queueCap → Joined s r i p t) ∧
        (p.mode = .openMode → p.fullPolicy = .replaceOldest → p.maxOpen ≤ admittedCount s r → Admitted t r i ∧
          ∀ j, (openNonChairs s r).head? = some j → j ≠ i → (s.seats[j].mic = .opening ∨ s.seats[j].mic = .on) →
            j ∉ s.floors[r].queue → Closed s r j t)) ∧
    ((s.seats[i].mic = .off ∨ s.seats[i].mic = .closing) → roomInSession s r = true → s.floors[r].state = .priority →
      ∃ t, exec (.key i .talk .press) s = .next t ∧
        if (p.mode = .request ∨ (p.mode = .openMode ∧ p.fullPolicy = .queue)) ∧ p.queueCap ≠ 0 ∧
            s.floors[r].queue.length < p.queueCap then
          t.seats[i].mic = .waiting ∧ t.seats[i].gate = 0 ∧ t.floors[r].queue = s.floors[r].queue ++ [i]
        else t.seats[i].denied = some 0 ∧ t.seats[i].mic = s.seats[i].mic ∧ t.floors[r].queue = s.floors[r].queue) ∧
    (s.seats[i].mic = .waiting → inSession s.floors[r] → ∀ k, k = .talk ∨ k = .cancel →
      ∃ t, exec (.key i k .press) s = .next t ∧ t.seats[i].mic = .off ∧ i ∉ t.floors[r].queue ∧
        (p.autoAdvance = false → t.floors[r].queue = s.floors[r].queue.filter (· != i))) ∧
    (inSession s.floors[r] → FloorOk s → ∀ k,
      (k = .talk ∧ isOpenMic s.seats[i].mic = true) ∨
        (k = .cancel ∧ (s.seats[i].mic = .opening ∨ s.seats[i].mic = .on)) →
      ∃ t, exec (.key i k .press) s = .next t ∧ Closed s r i t) ∧
    (inSession s.floors[r] → settled s r →
      (s.seats[i].mic = .off ∨ s.seats[i].mic = .closing ∨ s.seats[i].mic = .suspended) →
      ∃ t, exec (.key i .cancel .press) s = .next t ∧ KeyWithout s i id t)

/-- A TALK PRESS that is refused with DENIED: the DENIED timer starts from 0 and the seat keeps its mic state. So is a
DELEGATE's from OFF or CLOSING at a NORMAL floor in OPEN mode at max under the policy DENY, and under QUEUE with the queue cap
0 or the queue full, in REQUEST mode with the queue cap 0 or the queue full, and in VOICE mode at max (R53, R54), and any
seat's in a room whose floor is INACTIVE and which has a booking in PENDING (R29, R59). The DENIED timer of a seat expires: it
stops, and nothing else changes (R34). -/
def Obligations.Denials : Prop :=
  (∀ (i : SeatId) (s : State) (p : Profile),
      isLive s i = true → latchMode s i = .off → s.cfg.seats[i].role = .delegate →
      (s.seats[i].mic = .off ∨ s.seats[i].mic = .closing) → roomInSession s (roomOfSeat s i) = true →
      s.floors[roomOfSeat s i].state = .normal → floorProfile s (roomOfSeat s i) = some p →
      ((p.mode = .openMode ∧ p.fullPolicy = .deny ∧ p.maxOpen ≤ admittedCount s (roomOfSeat s i)) ∨
        (p.mode = .request ∧ (p.queueCap = 0 ∨ p.queueCap ≤ s.floors[roomOfSeat s i].queue.length)) ∨
        (p.mode = .openMode ∧ p.fullPolicy = .queue ∧ p.maxOpen ≤ admittedCount s (roomOfSeat s i) ∧
          (p.queueCap = 0 ∨ p.queueCap ≤ s.floors[roomOfSeat s i].queue.length)) ∨
        (p.mode = .voice ∧ p.maxOpen ≤ admittedCount s (roomOfSeat s i))) →
      i ∉ s.floors[roomOfSeat s i].queue →
      ∃ t, exec (.key i .talk .press) s = .next t ∧ t.seats[i].denied = some 0 ∧ t.seats[i].mic = s.seats[i].mic) ∧
  (∀ (i : SeatId) (s : State), isLive s i = true → latchMode s i = .off → s.cfg.seats[i].role ≠ .listener →
      (s.seats[i].mic = .off ∨ s.seats[i].mic = .closing) → s.floors[roomOfSeat s i].state = .inactive →
      roomPending s (roomOfSeat s i) = true → settled s (roomOfSeat s i) →
      ∃ t, exec (.key i .talk .press) s = .next t ∧ KeyWithout s i (fun x => { x with denied := some 0 }) t) ∧
  (∀ (i : SeatId) (s : State), exec (.deniedTimerExpiry i) s = .next { s with
      seats := s.seats.set i { s.seats[i] with denied := none } })

/-- The floor keys of a CHAIR at a floor in session. TALK admits it, whatever the count, and closes it from OPENING or ON; a
holder stays a holder. CANCEL closes it from OPENING or ON (R56). NEXT admits the head of the queue of a NORMAL floor, closing
the oldest non-chair first at max, and does nothing in PRIORITY, in VOICE mode or on an empty queue (R57). CLEAR closes the
non-chairs, withdraws the queue, and leaves chairs and holders (R58). PRIORITY PRESS makes a holder and floor speaker, and
opens the chair; the first holder suspends the other non-chairs (R65, R69). PRIORITY RELEASE takes the holder out, and closes
a microphone that PRIORITY opened; the last one resumes the floor (R66, R67). So does the PRIORITY RELEASE of a holder that is no
longer a chair (R28). A priority release, a CLEAR, and what a close leaves of the holders are said where no GRACE session ends. -/
def Obligations.ChairKeys : Prop :=
  (∀ (i : SeatId) (s : State) (r : SectionId) (p : Profile), isLive s i = true → latchMode s i = .off →
    s.cfg.seats[i].role = .chair → roomOfSeat s i = r → floorProfile s r = some p → inSession s.floors[r] →
    ((s.seats[i].mic = .suspended ∨
        ((s.seats[i].mic = .off ∨ s.seats[i].mic = .closing) ∧ roomInSession s r = true)) →
      ∃ t, exec (.key i .talk .press) s = .next t ∧ Admitted t r i) ∧
    ((s.seats[i].mic = .opening ∨ s.seats[i].mic = .on) → FloorOk s → ∀ k, k = .talk ∨ k = .cancel →
      ∃ t, exec (.key i k .press) s = .next t ∧ Closed s r i t ∧
        (outlives s r i → t.floors[r].holders = s.floors[r].holders)) ∧
    (s.seats[i].mic ≠ .opening → s.seats[i].mic ≠ .on → settled s r →
      ∃ t, exec (.key i .cancel .press) s = .next t ∧ KeyWithout s i id t) ∧
    (s.seats[i].kind = .chairUnit →
      (∀ j rest, s.floors[r].queue = j :: rest → s.floors[r].state = .normal → p.mode ≠ .voice →
        ∃ t, exec (.key i .next .press) s = .next t ∧ Admitted t r j ∧
          (p.autoAdvance = false → t.floors[r].queue = rest.filter (· != j)) ∧
          (p.maxOpen ≤ admittedCount s r → ∀ x, (openNonChairs s r).head? = some x → x ∉ s.floors[r].queue →
            (s.seats[x].mic = .opening ∨ s.seats[x].mic = .on) → Closed s r x t)) ∧
      (s.floors[r].queue = [] ∨ s.floors[r].state = .priority ∨ p.mode = .voice → settled s r →
        ∃ t, exec (.key i .next .press) s = .next t ∧ KeyWithout s i id t) ∧
      (noGrace s ∨ (∃ e ∈ s.floors[r].openSet, s.cfg.seats[e.seat].role = .chair) →
        ∃ t, exec (.key i .clear .press) s = .next t ∧ t.floors[r].queue = [] ∧ t.floors[r].state = s.floors[r].state ∧ t.floors[r].holders = s.floors[r].holders ∧
        (∀ j ∈ s.floors[r].queue, t.seats[j].mic = .off) ∧
        (∀ e ∈ s.floors[r].openSet, e.seat ∉ s.floors[r].queue →
          if s.cfg.seats[e.seat].role = .chair then t.seats[e.seat].mic = s.seats[e.seat].mic ∧ e ∈ t.floors[r].openSet
          else isOpenMic s.seats[e.seat].mic = true → Closed s r e.seat t)) ∧
      (s.floors[r].state = .normal → s.floors[r].holders = [] →
        ∃ t, exec (.key i .priority .press) s = .next t ∧ t.floors[r].state = .priority ∧ t.floors[r].holders = [i] ∧
          t.floors[r].speaker = some i ∧ (t.seats[i].mic = .opening ∨ t.seats[i].mic = .on) ∧
          (s.seats[i].mic ≠ .opening → s.seats[i].mic ≠ .on → hasEntry t r i true) ∧
          (∀ e ∈ s.floors[r].openSet, s.cfg.seats[e.seat].role ≠ .chair →
            (s.seats[e.seat].mic = .opening ∨ s.seats[e.seat].mic = .on) → t.seats[e.seat].mic = .suspended)) ∧
      (s.floors[r].state = .priority → s.floors[r].holders ≠ [] → i ∉ s.floors[r].holders →
        ∃ t, exec (.key i .priority .press) s = .next t ∧ t.floors[r].state = .priority ∧
          t.floors[r].holders = s.floors[r].holders ++ [i] ∧ t.floors[r].speaker = some i ∧
          (t.seats[i].mic = .opening ∨ t.seats[i].mic = .on) ∧
          (s.seats[i].mic ≠ .opening → s.seats[i].mic ≠ .on → hasEntry t r i true)) ∧
      (i ∈ s.floors[r].holders → settled s r →
        ∃ t, exec (.key i .priority .press) s = .next t ∧ KeyWithout s i id t) ∧
      (s.floors[r].state = .priority → i ∈ s.floors[r].holders → i ∉ s.floors[r].queue → outlives s r i →
        ∃ t, exec (.key i .priority .release) s = .next t ∧ ReleasedPriority s r i t) ∧
      (i ∉ s.floors[r].holders → settled s r →
        ∃ t, exec (.key i .priority .release) s = .next t ∧ KeyWithout s i id t))) ∧
  (∀ (i : SeatId) (s : State) (r : SectionId), KeyHeard s i .priority → s.cfg.seats[i].role ≠ .chair → roomOfSeat s i = r →
    s.floors[r].state = .priority → i ∈ s.floors[r].holders → i ∉ s.floors[r].queue → outlives s r i →
    ∃ t, exec (.key i .priority .release) s = .next t ∧ ReleasedPriority s r i t ∧ t.standby.idle = 0)

/-- SEAT OPEN, its checks passed, admits a seat in OFF, CLOSING or WAITING, and a chair also from SUSPENDED; a WAITING seat
leaves the queue, and the entry carries no priority-opened mark; a seat in OPENING or ON is answered OK without change
(R78). -/
def Obligations.SeatOpenAdmits : Prop :=
  ∀ (tag : Octet) (i : SeatId) (s u : State), afterApply s = u → seatCheck u i = none →
    ((u.cfg.seats[i].role = .chair ∧ (u.seats[i].mic = .off ∨ u.seats[i].mic = .closing ∨ u.seats[i].mic = .suspended)) ∨
        (u.cfg.seats[i].role ≠ .chair ∧ (u.seats[i].mic = .off ∨ u.seats[i].mic = .closing ∨ u.seats[i].mic = .waiting) ∧
          admittedCount u (roomOfSeat u i) < maxOpenOf u (roomOfSeat u i)) →
      ∃ t, exec (.seatOpen tag (octet i.val)) s = .next t ∧ t.seats[i].mic = .opening ∧ t.mgmt.reply = replyOf tag .ok [] ∧
        (∃ e ∈ t.floors[roomOfSeat u i].openSet, e.seat = i ∧ e.priorityOpened = false) ∧
        i ∉ t.floors[roomOfSeat u i].queue ∧
        t.seats[i].speakSecs = 0 ∧ t.seats[i].silence = 0 ∧ t.seats[i].limitWarning = false) ∧
    (u.cfg.seats[i].role ≠ .chair → (u.seats[i].mic = .off ∨ u.seats[i].mic = .closing ∨ u.seats[i].mic = .waiting) →
      maxOpenOf u (roomOfSeat u i) ≤ admittedCount u (roomOfSeat u i) →
      exec (.seatOpen tag (octet i.val)) s = .next { u with mgmt := { u.mgmt with reply := replyOf tag .full [] } }) ∧
    ((u.seats[i].mic = .opening ∨ u.seats[i].mic = .on) → settled u (roomOfSeat u i) →
      exec (.seatOpen tag (octet i.val)) s = .next { u with mgmt := { u.mgmt with reply := replyOf tag .ok [] } })

/-- SEAT CLOSE and SEAT DEQUEUE, their checks passed: an open seat is closed, a WAITING seat withdrawn, and a seat in any
other mic state changes nothing; a holder that is closed stays a holder, unless the close ends its GRACE session (R79, with
the close of R51). -/
def Obligations.SeatCloseAndDequeue : Prop :=
  ∀ (tag : Octet) (i : SeatId) (s u : State), afterApply s = u → seatCheck u i = none →
    (isOpenMic u.seats[i].mic = true → FloorOk u → ∃ t, exec (.seatClose tag (octet i.val)) s = .next t ∧
      t.seats[i].mic = (if u.seats[i].mic = .suspended ∧ u.seats[i].gate = 0 then .off else .closing) ∧
      i ∉ t.floors[roomOfSeat u i].openSet.map (·.seat) ∧ t.mgmt.reply = replyOf tag .ok [] ∧
      (outlives u (roomOfSeat u i) i → t.floors[roomOfSeat u i].holders = u.floors[roomOfSeat u i].holders)) ∧
    (u.seats[i].mic = .waiting → ∀ c, c = .seatClose tag (octet i.val) ∨ c = .seatDequeue tag (octet i.val) →
      ∃ t, exec c s = .next t ∧ t.seats[i].mic = .off ∧ i ∉ t.floors[roomOfSeat u i].queue ∧
        t.mgmt.reply = replyOf tag .ok []) ∧
    ((u.seats[i].mic = .off ∨ u.seats[i].mic = .closing) → settled u (roomOfSeat u i) →
      exec (.seatClose tag (octet i.val)) s = .next { u with mgmt := { u.mgmt with reply := replyOf tag .ok [] } }) ∧
    (u.seats[i].mic ≠ .waiting → settled u (roomOfSeat u i) →
      exec (.seatDequeue tag (octet i.val)) s = .next { u with mgmt := { u.mgmt with reply := replyOf tag .ok [] } })

/-- SEAT ENQUEUE, its checks passed, adds a seat in OFF or CLOSING to the tail of the queue, WAITING with gate 0, whatever the
full policy; auto-advance may admit it before the reply, and with auto-advance off it stands at the tail. A chair, an open
seat and VOICE mode are REFUSED, and a queue without room, or a cap of 0, is FULL (R80). A seat already WAITING is answered OK
without change; that it is so at a full queue too, which R80 leaves open between OK and FULL, is the model's reading
(assumption 13). -/
def Obligations.SeatEnqueueJoinsTheTail : Prop :=
  ∀ (tag : Octet) (i : SeatId) (s u : State) (p : Profile), afterApply s = u → seatCheck u i = none →
    floorProfile u (roomOfSeat u i) = some p →
    (u.cfg.seats[i].role ≠ .chair → (u.seats[i].mic = .off ∨ u.seats[i].mic = .closing) → p.mode ≠ .voice →
      u.floors[roomOfSeat u i].queue.length < p.queueCap →
      ∃ t, exec (.seatEnqueue tag (octet i.val)) s = .next t ∧ t.mgmt.reply = replyOf tag .ok [] ∧
        ((t.seats[i].mic = .waiting ∧ t.seats[i].gate = 0 ∧ i ∈ t.floors[roomOfSeat u i].queue) ∨ t.seats[i].mic = .opening) ∧
        (p.autoAdvance = false → t.seats[i].mic = .waiting ∧
          t.floors[roomOfSeat u i].queue = u.floors[roomOfSeat u i].queue ++ [i])) ∧
    (u.cfg.seats[i].role ≠ .chair → u.seats[i].mic = .waiting → p.mode ≠ .voice → settled u (roomOfSeat u i) →
      exec (.seatEnqueue tag (octet i.val)) s = .next { u with mgmt := { u.mgmt with reply := replyOf tag .ok [] } }) ∧
    (u.cfg.seats[i].role = .chair ∨ isOpenMic u.seats[i].mic = true ∨ p.mode = .voice →
      exec (.seatEnqueue tag (octet i.val)) s = .next { u with mgmt := { u.mgmt with reply := replyOf tag .refused [] } }) ∧
    (u.cfg.seats[i].role ≠ .chair → (u.seats[i].mic = .off ∨ u.seats[i].mic = .closing) → p.mode ≠ .voice →
      p.queueCap ≤ u.floors[roomOfSeat u i].queue.length →
      exec (.seatEnqueue tag (octet i.val)) s = .next { u with mgmt := { u.mgmt with reply := replyOf tag .full [] } })

/-- FLOOR CLEAR at a floor in session closes every seat of the open set, withdraws every seat of the queue, and clears the
holders; a floor in PRIORITY returns to NORMAL, unless the emptied open set ends a session in GRACE. Its refusals change
nothing (R81). -/
def Obligations.FloorClear : Prop :=
  ∀ (tag : Octet) (r : SectionId) (s u : State), afterApply s = u →
    (u.standby.room = .active → inSession u.floors[r] → (∀ e ∈ u.floors[r].openSet, isOpenMic u.seats[e.seat].mic = true) →
      ∃ t, exec (.floorClear tag (octet r.val)) s = .next t ∧
        t.floors[r].queue = [] ∧ t.floors[r].openSet = [] ∧ t.floors[r].holders = [] ∧ t.floors[r].state ≠ .priority ∧
        (noGrace u → t.floors[r].state = .normal) ∧
        (∀ e ∈ u.floors[r].openSet, isOpenMic t.seats[e.seat].mic = false) ∧
        (∀ i ∈ u.floors[r].queue, t.seats[i].mic = .off) ∧ t.mgmt.reply = replyOf tag .ok []) ∧
    (u.standby.room ≠ .active →
      exec (.floorClear tag (octet r.val)) s = .next { u with mgmt := { u.mgmt with reply := replyOf tag .asleep [] } }) ∧
    (u.standby.room = .active → u.floors[r].state = .frozen →
      exec (.floorClear tag (octet r.val)) s = .next { u with mgmt := { u.mgmt with reply := replyOf tag .busy [] } }) ∧
    (u.standby.room = .active → u.floors[r].state = .inactive →
      exec (.floorClear tag (octet r.val)) s = .next { u with mgmt := { u.mgmt with reply := replyOf tag .refused [] } })

/-- The refusals of the four seat requests, by the first check that fails: ASLEEP in a room that is not ACTIVE, BUSY at a
FROZEN floor, and REFUSED for a LISTENER, a seat not PRESENT on a RUNNING line, an INACTIVE floor, and a seat that is no CHAIR
at a floor in PRIORITY; nothing else changes (R77). A request that names a seat, a line, a room or a slot outside its range is
answered BAD_INDEX without data, and nothing else changes (R203, R204). -/
def Obligations.RequestRefusals : Prop :=
  (∀ (tag : Octet) (i : SeatId) (s u : State) (r : SectionId) (c : Instr) (x : Status), afterApply s = u → roomOfSeat u i = r →
    c = .seatOpen tag (octet i.val) ∨ c = .seatClose tag (octet i.val) ∨ c = .seatEnqueue tag (octet i.val) ∨
      c = .seatDequeue tag (octet i.val) →
    (u.standby.room ≠ .active ∧ x = .asleep) ∨
      (u.standby.room = .active ∧ u.floors[r].state = .frozen ∧ x = .busy) ∨
      (u.standby.room = .active ∧ u.floors[r].state ≠ .frozen ∧ x = .refused ∧
        (u.cfg.seats[i].role = .listener ∨ u.seats[i].present = false ∨ u.lines[sectionOf i].state ≠ .running ∨
          u.floors[r].state = .inactive ∨ (u.floors[r].state = .priority ∧ u.cfg.seats[i].role ≠ .chair))) →
    exec c s = refusedWith u tag x []) ∧
  (∀ (tag n : Octet) (q : BookingParams) (s u : State) (c : Instr), afterApply s = u →
    (64 ≤ n.toNat ∧ (c = .seatOpen tag n ∨ c = .seatClose tag n ∨ c = .seatEnqueue tag n ∨ c = .seatDequeue tag n)) ∨
      (4 ≤ n.toNat ∧ (c = .lineStart tag n ∨ c = .lineStop tag n ∨ c = .floorClear tag n ∨ c = .followHold tag n ∨
        c = .followRelease tag n ∨ c = .followReset tag n)) ∨
      (48 ≤ n.toNat ∧ (c = .bookChange tag n q ∨ c = .bookCancel tag n ∨ c = .bookExtend tag n ∨ c = .bookEnd tag n)) →
    exec c s = refusedWith u tag .badIndex [])

/-- The counts of a non-chair seat in ON reach their ends: the warning point sets the limit warning with a LIMIT event
WARNING, and the seat stays ON; the speak limit closes the seat with a LIMIT event REACHED; the silence close time closes it
(R51, R62, R63). -/
def Obligations.SpeakingLimits : Prop :=
  ∀ (i : SeatId) (s : State) (p : Profile), s.seats[i].mic = .on → s.cfg.seats[i].role ≠ .chair →
    floorProfile s (roomOfSeat s i) = some p → (∀ r : SectionId, i ∉ s.floors[r].queue) →
    (p.speakLimit ≠ 0 → p.limitWarning ≠ 0 → s.seats[i].limitWarning = false →
      ∃ t, exec (.limitWarning i) s = .next t ∧ t.seats[i].limitWarning = true ∧ t.seats[i].mic = .on ∧
        reported t ⟨.limit, octet i.val, 1, 0⟩) ∧
    (p.speakLimit ≠ 0 →
      ∃ t, exec (.limitReached i) s = .next t ∧ t.seats[i].mic = .closing ∧ t.seats[i].limitWarning = false ∧
        i ∉ t.floors[roomOfSeat s i].openSet.map (·.seat) ∧ reported t ⟨.limit, octet i.val, 2, 0⟩) ∧
    (silenceTime p ≠ 0 →
      ∃ t, exec (.silenceClose i) s = .next t ∧ t.seats[i].mic = .closing ∧ t.seats[i].limitWarning = false ∧
        i ∉ t.floors[roomOfSeat s i].openSet.map (·.seat))

/-- A GRACE session past its end, whose last open seats are closed, ends at once: by TALK, CANCEL, CLEAR or PRIORITY RELEASE,
by the loss of the seat, by its speak limit or silence, by SEAT CLOSE or by FLOOR CLEAR. The booking is ended, its floor is
INACTIVE with nothing in it, its seats are OFF or CLOSING, and the idle timer starts again (R74, R138, R139, R158). No other
booking waits in PENDING here, and auto-advance admits no seat. -/
def Obligations.GraceEnds : Prop :=
  (∀ (s : State) (r : SectionId) (k : SlotId) (b : Booking) (c : Instr), PartOk s → InGrace s r k b → closesLast s r c →
    ∃ t, exec c s = .next t ∧ GraceOver s r k b t) ∧
  (∀ (tag : Octet) (s u : State) (r : SectionId) (k : SlotId) (b : Booking), afterApply s = u → PartOk u → InGrace u r k b →
    (∀ i : SeatId, openSeats u r = [i] → seatCheck u i = none →
      ∃ t, exec (.seatClose tag (octet i.val)) s = .next t ∧ GraceOver u r k b t ∧ t.mgmt.reply = replyOf tag .ok []) ∧
    (∃ t, exec (.floorClear tag (octet r.val)) s = .next t ∧ GraceOver u r k b t ∧ t.mgmt.reply = replyOf tag .ok []))

/-! ## The mix -/

/-- A frame computation. A room that is not ACTIVE makes none (R84). In an ACTIVE room each live seat's envelope takes its
step, and so, outside a drain, does its gate; any other seat has both at 0 (R87, R88, R90). The feeds, the loudspeaker samples
and the clip counters are those of R98 to R102. They stand while the room stays ACTIVE, as it does unless an entry into
STANDBY meets its conditions. Outside a drain and without a GRACE session: a gate that reaches 256 makes an OPENING seat ON,
or CLOSING where its speaking limit or silence time stands reached already, and one that reaches 0 makes a CLOSING seat OFF
(R52, R91); the speaking seconds of a seat in ON count its frames, chairs included, and the silence duration of a non-chair in
ON its frames below the silence threshold, a louder one setting it to 0, while both stand in OPENING and SUSPENDED (R61, R63); a
seat whose envelope crosses the talk threshold in VOICE mode is admitted while the count, with the lower-numbered crossing seats
before it, is below max (R64; R64 gives the order, log 8 the choice that the seat was OFF before). -/
def Obligations.FrameComputation : Prop :=
  ∀ s : State,
    (s.standby.room = .active → ∃ t, exec .frameComputation s = .next t ∧
      (s.cal.valid = false ∨ s.standby.idle < idleDelayFrames s ∨ (s.planner.state = .idle ∧ noGrace s) →
        t.standby.room = .active) ∧
      (t.standby.room = .active →
        (∀ c : Fin 8, t.mix.feeds[c] = toSample (clampSample (frameOf s).feeds[c])) ∧
        (∀ i : SeatId, t.seats[i].loud = toSample (clampSample (frameOf s).loud[i])) ∧
        (∀ c : Fin 12, t.mix.clips[c] = min 65535 (s.mix.clips[c] + clipsOf (frameOf s) c)) ∧
        (∀ i : SeatId, t.seats[i].env =
          if isLive s i = true then nextEnvelope s.seats[i].env (gainedSample (micOf s i) s.cfg.seats[i].gain) else 0) ∧
        (s.planner.state = .idle → ∀ i : SeatId, t.seats[i].gate =
          if isLive s i = true then nextGate s.seats[i].mic s.seats[i].gate else 0)) ∧
      (s.planner.state = .idle → noGrace s → ∀ i : SeatId, isLive s i = true → (∀ r : SectionId, i ∉ s.floors[r].queue) →
        (s.seats[i].mic = .opening →
          (s.seats[i].gate < 255 → t.seats[i].mic = .opening) ∧
          (255 ≤ s.seats[i].gate → (t.seats[i].mic = .on ∨ t.seats[i].mic = .closing) ∧
            (s.seats[i].speakSecs = 0 → s.seats[i].silence = 0 → t.seats[i].mic = .on ∧
              reported t ⟨.seat, octet i.val, 3, 0⟩))) ∧
        (s.seats[i].mic = .closing →
          (1 < s.seats[i].gate → t.seats[i].mic = .closing) ∧
          (s.seats[i].gate ≤ 1 → t.seats[i].mic = .off ∧ reported t ⟨.seat, octet i.val, 0, 0⟩)) ∧
        (s.seats[i].mic = .on → SpeakingCounted s.seats[i] t.seats[i] ∧
          (s.cfg.seats[i].role = .chair →
            t.seats[i].silence = s.seats[i].silence ∧ t.seats[i].silencePart = s.seats[i].silencePart) ∧
          (∀ p, floorProfile s (roomOfSeat s i) = some p → s.cfg.seats[i].role ≠ .chair →
            SilenceCounted (p.silenceThreshold ≤ nextEnvelope s.seats[i].env (s1Of s i)) s.seats[i] t.seats[i])) ∧
        (s.seats[i].mic = .opening ∨ s.seats[i].mic = .suspended →
          t.seats[i].speakSecs = s.seats[i].speakSecs ∧ t.seats[i].speakPart = s.seats[i].speakPart ∧
          t.seats[i].silence = s.seats[i].silence ∧ t.seats[i].silencePart = s.seats[i].silencePart) ∧
        (∀ p, FloorOk s → floorProfile s (roomOfSeat s i) = some p → p.mode = .voice →
          s.floors[roomOfSeat s i].state = .normal → s.floors[roomOfSeat s i].queue = [] → crossesTalk s p i = true →
          if admittedCount s (roomOfSeat s i) + (crossingBelow s (roomOfSeat s i) p i).length < p.maxOpen then
            Admitted t (roomOfSeat s i) i
          else t.seats[i].mic = .off))) ∧
    (s.standby.room ≠ .active → exec .frameComputation s = .next { s with mix := { s.mix with computed := true } })

/-- In one frame computation a seat does not hear its own microphone: what the computation sends to a seat's loudspeaker does not
depend on the sample that the seat's own microphone has in it (R100). -/
def Obligations.OwnMicrophoneIsNotHeard : Prop :=
  ∀ (s : State) (i : SeatId) (x : Sample),
    (frameOf (modLine (sectionOf i) (fun u => { u with mic := u.mic.set (positionOf i) x }) s)).loud[i] = (frameOf s).loud[i]

/-- Division with rounding adds half of the divisor and takes the greatest integer not above the quotient; a clamp keeps a
value of the sample range and replaces any other by the nearer end (R85).
A gate ramps by 1 in each frame: after n frames it stands at the value it held plus n, not above 256, in OPENING, and at that
value less n, not below 0, in CLOSING and in SUSPENDED (R90).
An envelope stays within 0 to 32,767, takes a greater magnitude at once, and at or below 8,192 falls by 1 in each frame
without a louder sample (R87). -/
def Obligations.MixArithmetic : Prop :=
  ((∀ v d : Int, 0 < d → divRound v d * d ≤ v + d / 2 ∧ v + d / 2 < (divRound v d + 1) * d) ∧
    divRound 61440000 4096 = 15000 ∧ divRound (-2048) 4096 = 0 ∧ divRound (-2049) 4096 = -1 ∧ divRound (-6144) 4096 = -1 ∧
    divRound (-384128) 256 = -1500 ∧
    ∀ v : Int, clampSample v = if 32767 < v then 32767 else if v < -32768 then -32768 else v) ∧
  (∀ a n : Nat, a ≤ 256 →
      (nextGate .opening)^[n] a = min 256 (a + n) ∧ (nextGate .closing)^[n] a = a - n ∧ (nextGate .suspended)^[n] a = a - n) ∧
  ((∀ (env : Nat) (s1 : Int), env ≤ 32767 → nextEnvelope env s1 ≤ 32767) ∧
    (∀ (env : Nat) (s1 : Int), env < min s1.natAbs 32767 → nextEnvelope env s1 = min s1.natAbs 32767) ∧
    (∀ env n : Nat, env ≤ 8192 → (fun e => nextEnvelope e 0)^[n] env = env - n))

/-! ## Rooms, replans and the calendar -/

/-- Id A is a room in every plan; B, C and D are rooms exactly when AB, BC and CD are CLOSED; two neighbouring sections share
a room exactly when the divider between them is OPEN; and a target plan that differs from the active plan affects at least two
sections (R108, R113). Two intervals of the week intersect exactly when some minute lies in both (R125). -/
def Obligations.PlansAndIntervals : Prop :=
  (∀ p : Plan, isRoom p 0 = true ∧ (isRoom p 1 = true ↔ p.ab = .closed) ∧ (isRoom p 2 = true ↔ p.bc = .closed) ∧
    (isRoom p 3 = true ↔ p.cd = .closed) ∧
    (roomOfSection p 0 = roomOfSection p 1 ↔ p.ab = .opened) ∧ (roomOfSection p 1 = roomOfSection p 2 ↔ p.bc = .opened) ∧
    (roomOfSection p 2 = roomOfSection p 3 ↔ p.cd = .opened) ∧
    ∀ q : Plan, p ≠ q → 2 ≤ (allSections.filter (isAffected p q)).length) ∧
  (∀ a b d e : Nat, a < 10080 → b < 10080 →
    ((Interval.span a d).meets (.span b e) = true ↔
      ∃ m < 10080, (Interval.span a d).has m = true ∧ (Interval.span b e).has m = true)) ∧
  (∀ a d : Nat, a < 10080 →
    (Interval.always.meets (.span a d) = true ↔ ∃ m < 10080, (Interval.span a d).has m = true) ∧
    ((Interval.span a d).meets .always = true ↔ ∃ m < 10080, (Interval.span a d).has m = true))

/-- DIVIDER REPORT by the replan state. While DRAINING it becomes the pending plan; in IDLE a report equal to the active plan
changes nothing; any other begins a replan, which freezes the floors of the affected rooms and latches the keys of the
affected seats, or ends at once when every affected gate stands at 0 (R110, R114, R117). The reply carries the Room Planner's
state as the request leaves it; a divider that is neither OPEN nor CLOSED is refused with BAD_VALUE, and the reply carries
that state unchanged (R110, R111, R204). -/
def Obligations.DividerReport : Prop :=
  ∀ (tag ab bc cd : Octet) (s u : State), afterApply s = u →
    (1 < ab.toNat ∨ 1 < bc.toNat ∨ 1 < cd.toNat →
      exec (.dividerReport tag ab bc cd) s = refusedWith u tag .badValue (plannerData u)) ∧
    (∀ (p : Plan), planOf ab bc cd = some p → ∃ t, exec (.dividerReport tag ab bc cd) s = .next t ∧
      t.mgmt.reply = replyOf tag .ok (plannerData t)) ∧
    ∀ (p : Plan), planOf ab bc cd = some p →
    (u.planner.state = .draining → ∃ t, exec (.dividerReport tag ab bc cd) s = .next t ∧
      t = { u with
        planner := { u.planner with pendingPlan := some p }
        mgmt := { u.mgmt with reply := t.mgmt.reply } }) ∧
    (u.planner.state = .idle → p = u.planner.active → ∃ t, exec (.dividerReport tag ab bc cd) s = .next t ∧
      t = { u with mgmt := { u.mgmt with reply := t.mgmt.reply } }) ∧
    (u.planner.state = .idle → p ≠ u.planner.active → u.planner.pendingPlan = none →
      (∃ i : SeatId, isAffected u.planner.active p (sectionOf i) = true ∧ u.seats[i].gate ≠ 0) →
      ∃ t, exec (.dividerReport tag ab bc cd) s = .next t ∧
        t.planner = ⟨.draining, u.planner.active, some p, affectedSections u.planner.active p, none⟩ ∧
        t.cal.held = affectedSections u.planner.active p ∧
        (∀ i : SeatId, isAffected u.planner.active p (sectionOf i) = true → t.seats[i].latchEnable = true) ∧
        (∀ r : SectionId, isRoom u.planner.active r = true → isAffected u.planner.active p r = true →
          t.floors[r].state = .frozen ∧ t.floors[r].holders = [])) ∧
    (u.planner.state = .idle → p ≠ u.planner.active → u.planner.pendingPlan = none →
      (∀ i : SeatId, isAffected u.planner.active p (sectionOf i) = true → u.seats[i].gate = 0) →
      ∃ t, exec (.dividerReport tag ab bc cd) s = .next t ∧ t.planner = ⟨.idle, p, none, Vector.replicate 4 false, none⟩)

/-- The rebuild of a drain that is over: the target becomes the active plan, no floor of the old rooms stays FROZEN, the latch
enables are cleared, a PLAN event is raised, and without a pending plan the replan state is IDLE and no section is affected or
held (R118). In an ACTIVE room, with no key latched in the affected sections: a held session whose interval contains now, or
any while room time is INVALID, goes on when its range is a room of the new plan and waits in PENDING otherwise, and a held
session whose interval is over ends (R119, R142).
A pending plan equal to the new active plan is dropped. Any other begins a second replan at once, with its own affected
sections, latches, holds and frozen floors; it ends in the same rebuild when every gate of those sections is 0, and drains
otherwise (R112, R118). -/
def Obligations.Rebuild : Prop :=
  (∀ (s : State) (p : Plan), s.planner.state = .draining → s.planner.target = some p → s.planner.pendingPlan = none →
    (∀ i : SeatId, s.planner.affected[sectionOf i] = true → s.seats[i].gate = 0) →
    ∃ t, exec .rebuild s = .next t ∧ t.planner = ⟨.idle, p, none, Vector.replicate 4 false, none⟩ ∧
      t.cal.held = Vector.replicate 4 false ∧ (∀ r : SectionId, t.floors[r].state ≠ .frozen) ∧
      (∀ i : SeatId, s.planner.affected[sectionOf i] = true → t.seats[i].latchEnable = false) ∧
      reported t ⟨.plan, 0, octet (planCode p), 0⟩ ∧
      (s.standby.room = .active → (∀ i : SeatId, s.planner.affected[sectionOf i] = true → s.seats[i].latch = none) →
        ∀ k : SlotId, ∀ b ∈ s.cal.slots[k], isSession b.state = true → isHeld s b = true →
          (s.cal.valid = false ∨ (intervalOf b).has s.cal.minute = true →
            ∃ x, t.cal.slots[k] = some { b with state := x } ∧
              if rangeIsRoom p b = true then x = .inSession ∨ x = .ending else x = .pending) ∧
          (s.cal.valid = true → (intervalOf b).has s.cal.minute = false → EndedIn t k b))) ∧
  (∀ (s : State) (p q : Plan), s.planner.state = .draining → s.planner.target = some p → s.planner.pendingPlan = some q →
    (∀ i : SeatId, s.planner.affected[sectionOf i] = true → s.seats[i].gate = 0) →
    ∃ t, exec .rebuild s = .next t ∧
      (q = p → t.planner = ⟨.idle, p, none, Vector.replicate 4 false, none⟩ ∧ reported t ⟨.plan, 0, octet (planCode p), 0⟩) ∧
      (q ≠ p → (∀ i : SeatId, isAffected p q (sectionOf i) = true → s.seats[i].gate = 0) →
        t.planner = ⟨.idle, q, none, Vector.replicate 4 false, none⟩ ∧ t.cal.held = Vector.replicate 4 false ∧
          (∀ r : SectionId, t.floors[r].state ≠ .frozen) ∧ reported t ⟨.plan, 0, octet (planCode q), 0⟩) ∧
      (q ≠ p → (∃ i : SeatId, isAffected p q (sectionOf i) = true ∧ s.seats[i].gate ≠ 0) →
        t.planner = ⟨.draining, p, some q, affectedSections p q, none⟩ ∧ t.cal.held = affectedSections p q ∧
          (∀ i : SeatId, isAffected p q (sectionOf i) = true → t.seats[i].latchEnable = true) ∧
          (∀ r : SectionId, isRoom p r = true → isAffected p q r = true → t.floors[r].state = .frozen) ∧
          reported t ⟨.plan, 0, octet (planCode p), 0⟩))

/-- A minute boundary: while room time is VALID the minute advances, from 10,079 to 0, with second and frame count 0; while it
is INVALID nothing happens (R124). The calendar evaluates every booking at the new minute: one that waits is LEAD_IN in its
lead-in window and SCHEDULED outside it; one whose start it is, or that is PENDING in its interval, starts in an ACTIVE room
when its range is a room that no replan holds, and is PENDING otherwise, with the room WAKING when it slept; a session is
IN_SESSION or ENDING in its interval; when the interval is over a PENDING booking ends, and a session is in GRACE while its
open set is not empty and its grace window holds, or ends; a held session stands (R134 to R138, R141, R143).
CLOCK SET sets room time to the given minute and second, the frame count to 0, and makes it VALID; a minute above 10,079 or a
second above 59 is refused with BAD_VALUE, and room time is left as it was (R126). The jump: an open-end booking takes a length
when room time was INVALID (R153), and each booking is then held against the new minute by the rows of R154; a session that the
jump leaves behind ends without GRACE. -/
def Obligations.RoomTime : Prop :=
  (∀ s : State,
      (s.cal.valid = true → ∃ t, exec .minuteBoundary s = .next t ∧ t.cal.valid = true ∧
        t.cal.minute = (s.cal.minute + 1) % 10080 ∧ t.cal.second = 0 ∧ t.cal.frame = 0 ∧ t.cfg = s.cfg ∧ t.trunk = s.trunk ∧
        ∀ now, (s.cal.minute + 1) % 10080 = now → ∀ k : SlotId, ∀ b ∈ s.cal.slots[k],
          ((b.state = .scheduled ∨ b.state = .leadIn) → b.start ≠ now → t.cal.slots[k] =
            some { b with state := if leadInHas s b now = true then .leadIn else .scheduled }) ∧
          (((b.state = .scheduled ∨ b.state = .leadIn) ∧ b.start = now) ∨
              (b.state = .pending ∧ (intervalOf b).has now = true) →
            t.cal.slots[k] = some { b with state := startedOrPending s b now } ∧
            (b.state ≠ .pending → s.standby.room = .standby → t.standby.room = .waking)) ∧
          (b.state = .pending → (intervalOf b).has now = false → EndedIn t k b) ∧
          (isSession b.state = true → isHeld s b = true → t.cal.slots[k] = some b) ∧
          (isSession b.state = true → isHeld s b = false → (intervalOf b).has now = true →
            t.cal.slots[k] = some { b with state := if endingHas s b now = true then .ending else .inSession }) ∧
          (isSession b.state = true → isHeld s b = false → (intervalOf b).has now = false →
            (∀ j : SlotId, j ≠ k → ∀ c ∈ s.cal.slots[j], c.state = .scheduled ∨ c.state = .leadIn) →
            if s.floors[b.first].openSet ≠ [] ∧ graceHas s k b now = true then
              t.cal.slots[k] = some { b with state := .grace }
            else EndedIn t k b)) ∧
      (s.cal.valid = false → exec .minuteBoundary s = .next s)) ∧
  (∀ (tag : Octet) (m : Half) (x : Octet) (s u : State), afterApply s = u →
      (m.toNat ≤ 10079 → x.toNat ≤ 59 → ∃ t, exec (.clockSet tag m x) s = .next t ∧
        t.cal.valid = true ∧ t.cal.minute = m.toNat ∧ t.cal.second = x.toNat ∧ t.cal.frame = 0 ∧
        t.mgmt.reply = replyOf tag .ok [octet (m.toNat / 256), octet m.toNat, octet (128 + x.toNat)] ∧
        ∀ now, m.toNat = now → ∀ (k : SlotId) (b : Booking), (∃ old ∈ u.cal.slots[k], b = lengthened u now old) →
          (isSession b.state = true → isHeld u b = true → t.cal.slots[k] = some b) ∧
          (isSession b.state = true → isHeld u b = false → (intervalOf b).has now = true →
            t.cal.slots[k] = some { b with state := if endingHas u b now = true then .ending else .inSession }) ∧
          (isSession b.state = true → isHeld u b = false → (intervalOf b).has now = false → EndedIn t k b) ∧
          (b.state = .pending → (intervalOf b).has now = true →
            t.cal.slots[k] = some { b with state := startedOrPending u b now }) ∧
          (b.state = .pending → (intervalOf b).has now = false → EndedIn t k b) ∧
          ((b.state = .scheduled ∨ b.state = .leadIn) → jumpedInto u now b = true →
            t.cal.slots[k] = some { b with state := startedOrPending u b now } ∧
            (u.standby.room = .standby → t.standby.room = .waking)) ∧
          ((b.state = .scheduled ∨ b.state = .leadIn) → jumpedInto u now b = false →
            t.cal.slots[k] = some { b with state := if leadInHas u b now = true then .leadIn else .scheduled })) ∧
      (10079 < m.toNat ∨ 59 < x.toNat →
        exec (.clockSet tag m x) s = .next { u with mgmt := { u.mgmt with reply := replyOf tag .badValue [] } }))

/-- BOOK ADD that passes its checks places the booking in the lowest empty slot, with its duration limited to 15–720, origin
SCHEDULED and extension used 0: started when its interval contains now and it may start, PENDING when it may not, LEAD_IN in
its lead-in window, SCHEDULED otherwise, and a room in STANDBY wakes for any but the last; the reply is CLAMPED when the
duration was limited, and gives slot, state and room time (R145, R144). A TALK PRESS from OFF or CLOSING in a room with no
session and none PENDING opens an ad hoc session: a ONCE booking of the room under the ad hoc profile in the lowest empty
slot, from now for the ad hoc duration, cut at the next booking on the room, or open-end while room time is INVALID; its floor
is NORMAL, and the press then acts at it. Where no such session may start, the seat is DENIED and nothing else changes (R29,
R151, R152). -/
def Obligations.BookAddPlacesTheBooking : Prop :=
  (∀ (tag : Octet) (q : BookingParams) (s u : State) (k : SlotId) (first last : SectionId) (p : ProfileId) (rec : Recurrence)
    (b : Booking), afterApply s = u → u.cal.valid = true → Names q first last p rec →
    conflicts u first last (.span q.start.toNat (limitedTo q)) none = false → emptySlot u = some k →
    b = ⟨.scheduled, q.start.toNat, limitedTo q, first, last, p, rec, .scheduled, q.title, 0⟩ →
    ∃ t, exec (.bookAdd tag q) s = .next t ∧ t.cal.slots[k] = some { b with state := placedState u b } ∧
      (placedState u b ≠ .scheduled → u.standby.room = .standby → t.standby.room = .waking) ∧
      reported t ⟨.booking, octet k.val, octet (bookingStateCode (placedState u b)), 0⟩ ∧
      t.mgmt.reply = replyOf tag (takenAs q)
        ([octet k.val, octet (bookingStateCode (placedState u b))] ++ roomTimeOctets u)) ∧
  (∀ (i : SeatId) (s : State) (r last : SectionId), isLive s i = true → latchMode s i = .off →
    s.cfg.seats[i].role ≠ .listener → (s.seats[i].mic = .off ∨ s.seats[i].mic = .closing) → roomOfSeat s i = r →
    roomInSession s r = false → roomPending s r = false → lastOf s.planner.active r = last →
    (∀ (n : ProfileId) (k : SlotId) (length : Nat), PartOk s → s.cfg.room.adHocProfile = some n → emptySlot s = some k →
      (s.cal.valid = true → occupiedNow s r last = false ∧ 15 ≤ length ∧
        length = match firstConflictAfter s s.cal.minute r last none with
          | none => s.cfg.room.adHocDuration
          | some (_, c) => min s.cfg.room.adHocDuration (distance s.cal.minute c.start)) →
      (s.cal.valid = false → rangeTaken s r last = false) →
      ∃ t x, exec (.key i .talk .press) s = .next t ∧ (x = .inSession ∨ x = .ending) ∧
        t.cal.slots[k] = some (if s.cal.valid = true then ⟨x, s.cal.minute, length, r, last, n, .once, .adHoc, 0, 0⟩
          else ⟨.inSession, 0, 0, r, last, n, .once, .adHoc, 0, 0⟩) ∧
        t.floors[r].state = .normal ∧ t.floors[r].slot = some k ∧ t.floors[r].profile = some n ∧
        (s.cfg.seats[i].role = .chair ∨ s.cfg.profiles[n].mode ≠ .request → t.seats[i].mic = .opening)) ∧
    (s.cfg.room.adHocProfile = none ∨ emptySlot s = none ∨
        (s.cal.valid = true ∧ (occupiedNow s r last = true ∨ s.cfg.room.adHocDuration < 15 ∨
          ∃ x ∈ firstConflictAfter s s.cal.minute r last none, distance s.cal.minute x.2.start < 15)) ∨
        (s.cal.valid = false ∧ rangeTaken s r last = true) →
      ∃ t, exec (.key i .talk .press) s = .next t ∧ KeyWithout s i (fun x => { x with denied := some 0 }) t))

/-- BOOK CHANGE that passes its checks replaces the start, duration, range, profile, recurrence and title of the booking in
its slot, and keeps its origin and extension used; its state is that of a booking added with these fields, and a BOOKING event is
raised whether it changed or not (R144, R146). -/
def Obligations.BookChangeReplacesTheFields : Prop :=
  ∀ (tag : Octet) (q : BookingParams) (s u : State) (k : SlotId) (old b : Booking) (first last : SectionId) (p : ProfileId)
    (rec : Recurrence), afterApply s = u → u.cal.valid = true → Names q first last p rec →
    u.cal.slots[k] = some old → old.state = .scheduled → isLocked u old = false →
    conflicts u first last (.span q.start.toNat (limitedTo q + old.extension)) (some k) = false →
    b = ⟨.scheduled, q.start.toNat, limitedTo q, first, last, p, rec, old.origin, q.title, old.extension⟩ →
    ∃ t, exec (.bookChange tag (octet k.val) q) s = .next t ∧ t.cal.slots[k] = some { b with state := placedState u b } ∧
      (placedState u b ≠ .scheduled → u.standby.room = .standby → t.standby.room = .waking) ∧
      reported t ⟨.booking, octet k.val, octet (bookingStateCode (placedState u b)), 0⟩ ∧
      t.mgmt.reply = replyOf tag (takenAs q)
        ([octet k.val, octet (bookingStateCode (placedState u b))] ++ roomTimeOctets u)

/-- BOOK CANCEL of a booking that is not locked empties its slot, and a locked one is refused with LOCKED, without change (R147).
BOOK END of a booking in PENDING or a session state ends it at once: a ONCE booking leaves its slot empty, and a WEEKLY
booking waits for its next start with extension used 0; a SCHEDULED or LEAD_IN booking is REFUSED without change (R139, R149).
The replies give the slot, its state or EMPTY, and room time (R144).
A chair's END key ends the session of its room in the same way, and does nothing in a room without one (R150). -/
def Obligations.BookCancelAndEnd : Prop :=
  (∀ (tag : Octet) (k : SlotId) (s u : State) (b : Booking), afterApply s = u → u.cal.slots[k] = some b →
    (isLocked u b = false → ∃ t, exec (.bookCancel tag (octet k.val)) s = .next t ∧ t.cal.slots[k] = none ∧
      t.mgmt.reply = replyOf tag .ok ([octet k.val, 0xFF] ++ roomTimeOctets u) ∧ reported t ⟨.booking, octet k.val, 255, 0⟩) ∧
    (isLocked u b = true →
      exec (.bookCancel tag (octet k.val)) s = refusedWith u tag .locked (bookingData u k.val (some b)))) ∧
  (∀ (tag : Octet) (k : SlotId) (s u : State) (b : Booking), afterApply s = u → u.cal.slots[k] = some b →
    (b.state ≠ .scheduled → b.state ≠ .leadIn → ∃ t, exec (.bookEnd tag (octet k.val)) s = .next t ∧
      (b.recurrence = .once → t.cal.slots[k] = none) ∧
      (b.recurrence = .weekly → ∃ x, (x = .scheduled ∨ x = .leadIn) ∧ t.cal.slots[k] = some { b with state := x, extension := 0 }) ∧
      (isSession b.state = true → t.standby.idle = 0) ∧
      t.mgmt.reply = replyOf tag .ok (bookingData t k.val t.cal.slots[k])) ∧
    (b.state = .scheduled ∨ b.state = .leadIn →
      exec (.bookEnd tag (octet k.val)) s = refusedWith u tag .refused (bookingData u k.val (some b)))) ∧
  (∀ (i : SeatId) (s : State), KeyHeard s i .endSession → s.cfg.seats[i].role = .chair →
    (∀ (k : SlotId) (b : Booking), sessionSlot s (roomOfSeat s i) = some k → s.cal.slots[k] = some b →
      ∃ t, exec (.key i .endSession .press) s = .next t ∧ EndedIn t k b ∧ t.standby.idle = 0) ∧
    (sessionSlot s (roomOfSeat s i) = none →
      ∃ t, exec (.key i .endSession .press) s = .next t ∧ KeyWithout s i id t))

/-- BOOK EXTEND of a session that passes its checks adds 15 to the extension used and keeps every other field but the state, which
becomes ENDING when the new ending window contains now and IN_SESSION otherwise; the reply gives slot, state and room time, and a
BOOKING event is raised (R148). The lengthened interval contains now, as it does in every state a run reaches. A chair's EXTEND
key does the same to the session of its room; at the limit, for a conflict and for an open-end session it is refused with DENIED
alone, and in a room without a session it does nothing (R150). -/
def Obligations.BookExtendAddsFifteen : Prop :=
  (∀ (tag : Octet) (k : SlotId) (s u : State) (b : Booking), afterApply s = u → u.cal.slots[k] = some b →
    isSession b.state = true → b.duration ≠ 0 → isHeld u b = false →
    b.extension + 15 ≤ u.cfg.profiles[b.profile].extensionLimit →
    conflicts u b.first b.last (.span b.start (b.duration + b.extension + 15)) (some k) = false →
    (Interval.span b.start (b.duration + b.extension + 15)).has u.cal.minute = true →
    ∃ t, exec (.bookExtend tag (octet k.val)) s = .next t ∧ t.cal.slots[k] = some (extended u b) ∧
      reported t ⟨.booking, octet k.val, octet (bookingStateCode (extended u b).state), 0⟩ ∧
      t.mgmt.reply = replyOf tag .ok ([octet k.val, octet (bookingStateCode (extended u b).state)] ++ roomTimeOctets u)) ∧
  (∀ (i : SeatId) (s : State), KeyHeard s i .extend → s.cfg.seats[i].role = .chair →
    (∀ (k : SlotId) (b : Booking), sessionSlot s (roomOfSeat s i) = some k → s.cal.slots[k] = some b → isHeld s b = false →
      (b.duration ≠ 0 → b.extension + 15 ≤ s.cfg.profiles[b.profile].extensionLimit →
        conflicts s b.first b.last (.span b.start (b.duration + b.extension + 15)) (some k) = false →
        (Interval.span b.start (b.duration + b.extension + 15)).has s.cal.minute = true →
        ∃ t, exec (.key i .extend .press) s = .next t ∧ t.cal.slots[k] = some (extended s b)) ∧
      (b.duration = 0 ∨ s.cfg.profiles[b.profile].extensionLimit < b.extension + 15 ∨
          conflicts s b.first b.last (.span b.start (b.duration + b.extension + 15)) (some k) = true →
        ∃ t, exec (.key i .extend .press) s = .next t ∧ KeyWithout s i (fun x => { x with denied := some 0 }) t)) ∧
    (sessionSlot s (roomOfSeat s i) = none →
      ∃ t, exec (.key i .extend .press) s = .next t ∧ KeyWithout s i id t))

/-- The refusals of the booking requests, each by the first check that fails, with nothing changed. BOOK ADD: NO_TIME,
BAD_VALUE, CONFLICT and FULL; its reply carries two octets that the manual leaves open and the model leaves free (assumption
20), then room time (R145). BOOK CHANGE: NO_TIME, BAD_VALUE, NOT_FOUND, LOCKED and CONFLICT (R146). BOOK EXTEND: REFUSED,
BUSY, LOCKED and CONFLICT (R148). BOOK CANCEL, BOOK EXTEND and BOOK END of an empty slot: NOT_FOUND (R147 to R149). Their
replies carry the slot, its state or EMPTY, and room time (R144). -/
def Obligations.BookingRefusals : Prop :=
  (∀ (tag : Octet) (q : BookingParams) (s u : State) (x : Status), afterApply s = u →
    (u.cal.valid = false ∧ x = .noTime) ∨ (u.cal.valid = true ∧ misnames q ∧ x = .badValue) ∨
      (∃ first last p rec, u.cal.valid = true ∧ Names q first last p rec ∧
        ((conflicts u first last (.span q.start.toNat (limitedTo q)) none = true ∧ x = .conflict) ∨
          (conflicts u first last (.span q.start.toNat (limitedTo q)) none = false ∧ emptySlot u = none ∧ x = .full))) →
    ∃ (n : Nat) (a b : Octet), exec (.bookAdd tag q) s = refusedWith { u with fresh := n } tag x ([a, b] ++ roomTimeOctets u)) ∧
  (∀ (tag : Octet) (k : SlotId) (q : BookingParams) (s u : State) (x : Status), afterApply s = u →
    (u.cal.valid = false ∧ x = .noTime) ∨ (u.cal.valid = true ∧ misnames q ∧ x = .badValue) ∨
      (∃ first last p rec, u.cal.valid = true ∧ Names q first last p rec ∧
        ((u.cal.slots[k] = none ∧ x = .notFound) ∨
          ∃ old, u.cal.slots[k] = some old ∧
            (((old.state ≠ .scheduled ∨ isLocked u old = true) ∧ x = .locked) ∨
              (old.state = .scheduled ∧ isLocked u old = false ∧ x = .conflict ∧
                conflicts u first last (.span q.start.toNat (limitedTo q + old.extension)) (some k) = true)))) →
    exec (.bookChange tag (octet k.val) q) s = refusedWith u tag x (bookingData u k.val u.cal.slots[k])) ∧
  (∀ (tag : Octet) (k : SlotId) (s u : State), afterApply s = u →
    (u.cal.slots[k] = none → ∀ c, c = .bookCancel tag (octet k.val) ∨ c = .bookExtend tag (octet k.val) ∨
        c = .bookEnd tag (octet k.val) → exec c s = refusedWith u tag .notFound ([octet k.val, 0xFF] ++ roomTimeOctets u)) ∧
    ∀ (b : Booking) (x : Status), u.cal.slots[k] = some b →
      ((isSession b.state = false ∨ b.duration = 0) ∧ x = .refused) ∨
        (isSession b.state = true ∧ b.duration ≠ 0 ∧
          ((isHeld u b = true ∧ x = .busy) ∨
            (isHeld u b = false ∧
              ((u.cfg.profiles[b.profile].extensionLimit < b.extension + 15 ∧ x = .locked) ∨
                (b.extension + 15 ≤ u.cfg.profiles[b.profile].extensionLimit ∧ x = .conflict ∧
                  conflicts u b.first b.last (.span b.start (b.duration + b.extension + 15)) (some k) = true))))) →
      exec (.bookExtend tag (octet k.val)) s =
        refusedWith u tag x ([octet k.val, octet (bookingStateCode b.state)] ++ roomTimeOctets u))

/-! ## Standby and wake -/

/-- The idle timer reaches the idle delay with every entry condition met: the room enters STANDBY with every gate, envelope
and output 0 and the idle timer at 0 (R159, R160). No lead-in window contains now, as in every state in which no booking is in
LEAD_IN. -/
def Obligations.RoomEntersStandby : Prop :=
  ∀ s : State, s.standby.room = .active → (∀ i : SeatId, s.seats[i].mic = .off) → s.cal.valid = true → tableQuiet s = true →
    s.planner.state = .idle → (∀ k : SlotId, ∀ b ∈ s.cal.slots[k], leadInHas s b s.cal.minute = false) →
    ∃ t, exec .idleTimerExpiry s = .next t ∧ t.standby = ⟨.standby, 0, none⟩ ∧
      (∀ i : SeatId, t.seats[i].gate = 0 ∧ t.seats[i].env = 0 ∧ t.seats[i].loud = 0 ∧ t.seats[i].mic = .off) ∧
      (∀ c : Fin 8, t.mix.feeds[c] = 0) ∧ (∀ l : SectionId, t.lines[l].pollPhase = 0) ∧
      reported t ⟨.room, 0, 1, 0⟩

/-- WAKE in STANDBY begins the wake: WAKING, the wake timer at 0, and the reply carries the room state; in ACTIVE and in WAKING it
changes nothing (R162, R164).
The wake timer reaches 2,000 ms: the room is ACTIVE, the timer stopped, every latch outside a replan is empty, and a ROOM
event ACTIVE is raised; no frame computation is due in the frame period in progress (R165; that R105 allows no other is the
model's reading, assumption 37). The idle delay is at least one minute, as R43 has it. -/
def Obligations.Wakes : Prop :=
  (∀ (tag : Octet) (s u : State), afterApply s = u →
    (u.standby.room = .standby → ∃ t, exec (.wake tag) s = .next t ∧ t.standby = ⟨.waking, 0, some 0⟩ ∧
      t.mgmt.reply = replyOf tag .ok [2]) ∧
    (u.standby.room ≠ .standby → exec (.wake tag) s = .next { u with
      mgmt := { u.mgmt with reply := replyOf tag .ok [octet (roomStateCode u.standby.room)] } })) ∧
  (∀ s : State, s.standby.wake.isSome = true → 1 ≤ s.cfg.room.idleDelay →
    ∃ t, exec .wakeTimerExpiry s = .next t ∧ t.standby.room = .active ∧ t.standby.wake = none ∧ t.standby.idle = 0 ∧
      t.mix.computed = true ∧
      (∀ i : SeatId, s.seats[i].latchEnable = false → t.seats[i].latch = none) ∧ reported t ⟨.room, 0, 0, 0⟩)

/-! ## Screens and cameras -/

/-- A DONE updates the runtime record of the target of the directive it answers (R188). After the DONE of a RECALL, a
FOLLOWING record of the camera's room that awaits that shot shows it, with its dwell deadline and its SHOWs, and keeps its
candidate, active share, state and pending flag; no other follow record changes (R177).
The media queue: a directive that is in flight already is not queued again; one for a target with an unsent directive takes
its place; any other joins the tail. While fewer than four are in flight the oldest whose target has nothing in flight is
sent, with its message and its reply timer at 0, and otherwise none. A FAIL for a screen does nothing else but free its place,
which the queue then fills (R186, R187). -/
def Obligations.DoneUpdatesTheTarget : Prop :=
  (∀ s : State,
    (∀ (c : CameraId) (q : Preset) (n : Nat), flightFor s.video (.camera c) = some ⟨.recall c q, n⟩ →
      ∃ t, exec (.done (.camera c)) s = .next t ∧
        t.video.cameras = s.video.cameras.set c ⟨some q, false⟩ ∧ t.video.screens = s.video.screens ∧
        ∀ r : SectionId, roomOfCamera s c = r →
          if s.video.follow[r].state = .following ∧ s.video.follow[r].awaited = some ⟨c, q⟩ then
            ShotShown s r ⟨c, q⟩ t ∧ t.video.follow[r].state = .following ∧
              t.video.follow[r].pendingFlag = s.video.follow[r].pendingFlag
          else t.video.follow = s.video.follow) ∧
    (∀ (k : ScreenId) (x : Source) (n : Nat), flightFor s.video (.screen k) = some ⟨.display k x, n⟩ →
      ∃ t, exec (.done (.screen k)) s = .next t ∧
        t.video.screens = s.video.screens.set k ⟨x, s.video.screens[k].power, false⟩ ∧ t.video.cameras = s.video.cameras) ∧
    (∀ (k : ScreenId) (n : Nat), flightFor s.video (.screen k) = some ⟨.power k true, n⟩ →
      ∃ t, exec (.done (.screen k)) s = .next t ∧
        t.video.screens = s.video.screens.set k ⟨s.video.screens[k].current, true, false⟩ ∧ t.video.cameras = s.video.cameras) ∧
    (∀ (k : ScreenId) (n : Nat), flightFor s.video (.screen k) = some ⟨.power k false, n⟩ →
      ∃ t, exec (.done (.screen k)) s = .next t ∧
        t.video.screens = s.video.screens.set k ⟨.blank, false, false⟩ ∧ t.video.cameras = s.video.cameras) ∧
    (∀ (k : ScreenId), (flightFor s.video (.screen k)).isSome = true → ∃ t, exec (.fail (.screen k)) s = .next t ∧
      t.video = sendOne^[4] { s.video with
        inFlight := s.video.inFlight.filter fun x => targetOfDirective x.directive != .screen k })) ∧
  (∀ (d : Directive) (v : Video),
    (∀ n, flightFor v (targetOfDirective d) = some ⟨d, n⟩ → joinQueue d v = v) ∧
    (∀ old pre post, (∀ n, flightFor v (targetOfDirective d) ≠ some ⟨d, n⟩) → v.queue = pre ++ old :: post →
      targetOfDirective old = targetOfDirective d →
      (∀ x ∈ pre ++ post, targetOfDirective x ≠ targetOfDirective d) →
      joinQueue d v = { v with queue := pre ++ d :: post }) ∧
    ((∀ n, flightFor v (targetOfDirective d) ≠ some ⟨d, n⟩) →
      (∀ x ∈ v.queue, targetOfDirective x ≠ targetOfDirective d) → joinQueue d v = { v with queue := v.queue ++ [d] }) ∧
    (∀ pre post, v.inFlight.length < 4 → v.queue = pre ++ d :: post → flightFor v (targetOfDirective d) = none →
      (∀ x ∈ pre, (flightFor v (targetOfDirective x)).isSome = true) →
      sendOne v = { v with
        queue := pre ++ post
        inFlight := v.inFlight ++ [⟨d, 0⟩]
        transmitted := v.transmitted ++ [directiveMessage d] }) ∧
    (4 ≤ v.inFlight.length ∨ (∀ x ∈ v.queue, (flightFor v (targetOfDirective x)).isSome = true) → sendOne v = v))

/-- A FAIL leaves every runtime record of cameras and screens as it stood, and a reply timeout sets the target's unresponsive
flag alone; each raises a MEDIA event for the target (R188, R189). After either for a RECALL, a FOLLOWING record of the camera's
room that awaits that shot falls back to another overview shot, shown at once if its camera is ready and awaited if not; with no
other one the awaited shot becomes none. The room's state, candidate, active share and pending flag stand, and no other follow
record changes (R178).
A DONE or FAIL for a target with nothing in flight is ignored, and so is a media message that is no reply (R188). -/
def Obligations.FailuresAndStrayMessages : Prop :=
  (∀ (x : Target) (s : State), (flightFor s.video x).isSome = true →
      (∃ t, exec (.fail x) s = .next t ∧ t.video.cameras = s.video.cameras ∧ t.video.screens = s.video.screens ∧
        reported t ⟨.media, octet (targetCode x), 1, 0⟩) ∧
      (∃ t, exec (.replyTimeout x) s = .next t ∧ reported t ⟨.media, octet (targetCode x), 2, 0⟩ ∧
        (∀ c : CameraId, t.video.cameras[c].preset = s.video.cameras[c].preset ∧
          t.video.cameras[c].unresponsive = (s.video.cameras[c].unresponsive || x == .camera c)) ∧
        (∀ k : ScreenId, t.video.screens[k].current = s.video.screens[k].current ∧
          t.video.screens[k].power = s.video.screens[k].power ∧
          t.video.screens[k].unresponsive = (s.video.screens[k].unresponsive || x == .screen k)))) ∧
  (∀ (s : State) (cmd : Instr) (c : CameraId) (q : Preset) (n : Nat) (r : SectionId),
      cmd = .fail (.camera c) ∨ cmd = .replyTimeout (.camera c) →
      flightFor s.video (.camera c) = some ⟨.recall c q, n⟩ → roomOfCamera s c = r → ∃ t, exec cmd s = .next t ∧
        if s.video.follow[r].state = .following ∧ s.video.follow[r].awaited = some ⟨c, q⟩ then
          FellBack (landed (.camera c) s) r ⟨c, q⟩ t
        else t.video.follow = s.video.follow) ∧
  (∀ (x : Target) (m : Vector Octet 8) (s : State),
      (flightFor s.video x = none → exec (.done x) s = .next s ∧ exec (.fail x) s = .next s ∧ exec (.replyTimeout x) s = .next s) ∧
      (decodeMediaReply m = none → exec (.mediaMessageDiscard m) s = .next s))

/-- The dwell deadline of a room reaches 0: it becomes none; with the pending flag set on a FOLLOWING record the flag is
cleared, and the Screen Director acts on the candidate: its own shot, else the overview shot, is shown when its camera is ready,
and is awaited with its RECALL on the way when it is not, the shown shot standing; with neither shot nothing is put up. With the
flag clear, or on a HELD record, nothing else changes (R174 to R176). -/
def Obligations.DwellExpires : Prop :=
  ∀ (r : SectionId) (s : State), s.video.follow[r].dwell.isSome = true →
    (s.video.follow[r].pendingFlag = false ∨ s.video.follow[r].state = .held → exec (.dwellExpiry r) s = .next { s with
      video := { s.video with follow := s.video.follow.set r { s.video.follow[r] with dwell := none } } }) ∧
    (s.video.follow[r].pendingFlag = true → s.video.follow[r].state = .following →
      ∃ t, exec (.dwellExpiry r) s = .next t ∧ t.video.follow[r].pendingFlag = false ∧ CandidateActed s r t)

/-- The FOLLOW requests: a room that is not ACTIVE answers ASLEEP, a FROZEN floor BUSY and an id that is no room REFUSED, without
change. HOLD of a FOLLOWING record sets it HELD without awaited shot, dwell deadline and pending flag, and keeps its candidate,
shown shot and share; RELEASE sets it FOLLOWING and, in session, acts on the candidate; RESET sets it FOLLOWING and, in session,
acts on the overview shot; both keep candidate and share (R182, R183).
A SHARE PRESS: the owner of its room's share ends it; in a session whose profile permits it, a seat with a share input becomes
the owner in place of any before, and each SHARE_FOLLOW screen of the room that is on and shows something else has SHOW of the
share on its way; any other press is refused with DENIED alone (R180, R181). The SHOW is said of a screen for
which no POWER waits unsent; one that waits stays on its way (R171), and that the SHOW does not take its place by R186 is the
model's reading (assumption 34). -/
def Obligations.FollowRequests : Prop :=
  (∀ (tag : Octet) (r : SectionId) (s u : State), afterApply s = u →
    (followCheck u r = none → u.video.follow[r].state = .following → ∃ t, exec (.followHold tag (octet r.val)) s = .next t ∧
      t.video.follow[r] = { u.video.follow[r] with state := .held, awaited := none, dwell := none, pendingFlag := false } ∧
      t.mgmt.reply = replyOf tag .ok (followData t r)) ∧
    (followCheck u r = none → u.video.follow[r].state = .held → exec (.followHold tag (octet r.val)) s = .next { u with
      mgmt := { u.mgmt with reply := replyOf tag .ok (followData u r) } }) ∧
    (followCheck u r = none → ∃ t, exec (.followRelease tag (octet r.val)) s = .next t ∧
      t.video.follow[r].state = .following ∧ t.video.follow[r].pendingFlag = false ∧
      t.video.follow[r].candidate = u.video.follow[r].candidate ∧ t.video.follow[r].share = u.video.follow[r].share ∧
      t.mgmt.reply = replyOf tag .ok (followData t r) ∧
      (roomInSession u r = true → CandidateActed u r t) ∧
      (roomInSession u r = false → t.video.follow[r] =
        { u.video.follow[r] with state := .following, dwell := none, pendingFlag := false })) ∧
    (followCheck u r = none → ∃ t, exec (.followReset tag (octet r.val)) s = .next t ∧
      t.video.follow[r].state = .following ∧ t.video.follow[r].pendingFlag = false ∧
      t.video.follow[r].candidate = u.video.follow[r].candidate ∧ t.video.follow[r].share = u.video.follow[r].share ∧
      t.mgmt.reply = replyOf tag .ok (followData t r) ∧
      (roomInSession u r = true → OverviewActed u r t) ∧
      (roomInSession u r = false → t.video.follow[r] =
        { u.video.follow[r] with state := .following, awaited := none, dwell := none, pendingFlag := false })) ∧
    (∀ c x, c = .followHold tag (octet r.val) ∨ c = .followRelease tag (octet r.val) ∨ c = .followReset tag (octet r.val) →
      (u.standby.room ≠ .active ∧ x = .asleep) ∨
        (u.standby.room = .active ∧ u.floors[r].state = .frozen ∧ x = .busy) ∨
        (u.standby.room = .active ∧ u.floors[r].state ≠ .frozen ∧ isRoom u.planner.active r = false ∧ x = .refused) →
      exec c s = .next { u with mgmt := { u.mgmt with reply := replyOf tag x (followData u r) } })) ∧
  (∀ (i : SeatId) (s : State) (r : SectionId), KeyHeard s i .share → s.cfg.seats[i].role ≠ .listener → roomOfSeat s i = r →
    (∀ x, s.video.follow[r].share = some ⟨i, x⟩ → ∃ t, exec (.key i .share .press) s = .next t ∧
      t.video.follow[r] = { s.video.follow[r] with share := none } ∧ KeyWithout { s with video := t.video } i id t) ∧
    ((∀ x, s.video.follow[r].share ≠ some ⟨i, x⟩) →
      (∀ p x, roomInSession s r = true → floorProfile s r = some p →
        (p.sharePermission = .anyone ∨ (p.sharePermission = .chair ∧ s.cfg.seats[i].role = .chair)) →
        s.cfg.seats[i].share = some x → ∃ t, exec (.key i .share .press) s = .next t ∧
          t.video.follow[r] = { s.video.follow[r] with share := some ⟨i, x⟩ } ∧ KeyWithout { s with video := t.video } i id t ∧
          ∀ k : ScreenId, roomOfScreen s k = r → s.cfg.screens[k].mode = .shareFollow →
            s.video.screens[k].power = true →
            (powerQueued k s.video = false → s.video.screens[k].current ≠ .share x → onItsWay t (.display k (.share x))) ∧
            ∀ on, .power k on ∈ s.video.queue → onItsWay t (.power k on)) ∧
      (roomInSession s r = false ∨ floorProfile s r = none ∨ s.cfg.seats[i].share = none ∨
          (∃ p ∈ floorProfile s r, p.sharePermission = .none ∨
            (p.sharePermission = .chair ∧ s.cfg.seats[i].role ≠ .chair)) →
        ∃ t, exec (.key i .share .press) s = .next t ∧ KeyWithout s i (fun x => { x with denied := some 0 }) t)))

/-! ## Formats -/

/-- Every cell and message with a check octet that the part forms sums to 0 modulo 256: seat state cells, the cell that names
no position, and media messages; and a message from the media equipment with a correct check and a defined kind and target is
the reply it spells, whatever its unused octets hold, while one with a bad check, another kind or no target is none (R188, R208,
11.4). An upstream cell is a valid reply when all eight octets came back with a correct check and spell a HELLO of a defined
kind, a KEY with a defined key and action, or a QUIET; any other is a missed turn (R4, 11.2). -/
def Obligations.CheckOctets : Prop :=
  (∀ (s : State) (i : SeatId), checkHolds (seatCell s i).toList = true) ∧ checkHolds noPositionCell.toList = true ∧
  (∀ d : Directive, checkHolds (directiveMessage d).toList = true) ∧
  (∀ (m : Vector Octet 8) (x : Target), checkHolds m.toList = true → targetOf m[1].toNat = some x →
    (m[0] = 0x81 → decodeMediaReply m = some (.done x)) ∧ (m[0] = 0x82 → decodeMediaReply m = some (.fail x))) ∧
  (∀ m : Vector Octet 8, checkHolds m.toList = false ∨ targetOf m[1].toNat = none ∨ (m[0] ≠ 0x81 ∧ m[0] ≠ 0x82) →
    decodeMediaReply m = none) ∧
  (∀ (kind first second : Octet) (rest : List Octet), rest.length = 5 → checkHolds (kind :: first :: second :: rest) = true →
    (∀ x, kind = 1 → seatKindOf first.toNat = some x →
      decodeSeatReply (kind :: first :: second :: rest) = some (.hello x)) ∧
    (∀ k a, kind = 2 → keyOf first.toNat = some k → keyActionOf second.toNat = some a →
      decodeSeatReply (kind :: first :: second :: rest) = some (.key ⟨k, a⟩)) ∧
    (kind = 3 → decodeSeatReply (kind :: first :: second :: rest) = some .quiet) ∧
    ((kind = 1 ∧ seatKindOf first.toNat = none) ∨
        (kind = 2 ∧ (keyOf first.toNat = none ∨ keyActionOf second.toNat = none)) ∨
        (kind ≠ 1 ∧ kind ≠ 2 ∧ kind ≠ 3) →
      decodeSeatReply (kind :: first :: second :: rest) = none)) ∧
  (∀ up : List Octet, up.length ≠ 8 ∨ checkHolds up = false → decodeSeatReply up = none)
end

