-- ==== Sys2Proof/Laws/State.lean ====
section
/-! SUPPORT. One lemma per field per update of State: what each named update gives, and what it leaves. -/

namespace Sys2Proof.Machine

open Sys2Proof

variable (s : State)

/-! ## modLine -/

@[simp] theorem modLine_lines (l : SectionId) (f : LineUnit → LineUnit) : (modLine l f s).lines = s.lines.set l (f s.lines[l]) := rfl
@[simp] theorem modLine_seats (l : SectionId) (f : LineUnit → LineUnit) : (modLine l f s).seats = s.seats := rfl
@[simp] theorem modLine_floors (l : SectionId) (f : LineUnit → LineUnit) : (modLine l f s).floors = s.floors := rfl
@[simp] theorem modLine_admissions (l : SectionId) (f : LineUnit → LineUnit) : (modLine l f s).admissions = s.admissions := rfl
@[simp] theorem modLine_mix (l : SectionId) (f : LineUnit → LineUnit) : (modLine l f s).mix = s.mix := rfl
@[simp] theorem modLine_planner (l : SectionId) (f : LineUnit → LineUnit) : (modLine l f s).planner = s.planner := rfl
@[simp] theorem modLine_cal (l : SectionId) (f : LineUnit → LineUnit) : (modLine l f s).cal = s.cal := rfl
@[simp] theorem modLine_standby (l : SectionId) (f : LineUnit → LineUnit) : (modLine l f s).standby = s.standby := rfl
@[simp] theorem modLine_video (l : SectionId) (f : LineUnit → LineUnit) : (modLine l f s).video = s.video := rfl
@[simp] theorem modLine_mgmt (l : SectionId) (f : LineUnit → LineUnit) : (modLine l f s).mgmt = s.mgmt := rfl
@[simp] theorem modLine_cfg (l : SectionId) (f : LineUnit → LineUnit) : (modLine l f s).cfg = s.cfg := rfl
@[simp] theorem modLine_trunk (l : SectionId) (f : LineUnit → LineUnit) : (modLine l f s).trunk = s.trunk := rfl
@[simp] theorem modLine_fresh (l : SectionId) (f : LineUnit → LineUnit) : (modLine l f s).fresh = s.fresh := rfl
@[simp] theorem modLine_pending (l : SectionId) (f : LineUnit → LineUnit) : (modLine l f s).pending = s.pending := rfl

/-! ## modSeat -/

@[simp] theorem modSeat_lines (i : SeatId) (f : Seat → Seat) : (modSeat i f s).lines = s.lines := rfl
@[simp] theorem modSeat_seats (i : SeatId) (f : Seat → Seat) : (modSeat i f s).seats = s.seats.set i (f s.seats[i]) := rfl
@[simp] theorem modSeat_floors (i : SeatId) (f : Seat → Seat) : (modSeat i f s).floors = s.floors := rfl
@[simp] theorem modSeat_admissions (i : SeatId) (f : Seat → Seat) : (modSeat i f s).admissions = s.admissions := rfl
@[simp] theorem modSeat_mix (i : SeatId) (f : Seat → Seat) : (modSeat i f s).mix = s.mix := rfl
@[simp] theorem modSeat_planner (i : SeatId) (f : Seat → Seat) : (modSeat i f s).planner = s.planner := rfl
@[simp] theorem modSeat_cal (i : SeatId) (f : Seat → Seat) : (modSeat i f s).cal = s.cal := rfl
@[simp] theorem modSeat_standby (i : SeatId) (f : Seat → Seat) : (modSeat i f s).standby = s.standby := rfl
@[simp] theorem modSeat_video (i : SeatId) (f : Seat → Seat) : (modSeat i f s).video = s.video := rfl
@[simp] theorem modSeat_mgmt (i : SeatId) (f : Seat → Seat) : (modSeat i f s).mgmt = s.mgmt := rfl
@[simp] theorem modSeat_cfg (i : SeatId) (f : Seat → Seat) : (modSeat i f s).cfg = s.cfg := rfl
@[simp] theorem modSeat_trunk (i : SeatId) (f : Seat → Seat) : (modSeat i f s).trunk = s.trunk := rfl
@[simp] theorem modSeat_fresh (i : SeatId) (f : Seat → Seat) : (modSeat i f s).fresh = s.fresh := rfl
@[simp] theorem modSeat_pending (i : SeatId) (f : Seat → Seat) : (modSeat i f s).pending = s.pending := rfl

/-! ## modSeats -/

@[simp] theorem modSeats_lines (f : SeatId → Seat → Seat) : (modSeats f s).lines = s.lines := by simp only [modSeats]
@[simp] theorem modSeats_seats (f : SeatId → Seat → Seat) : (modSeats f s).seats = Vector.ofFn fun i : SeatId => f i s.seats[i] := by simp only [modSeats]
@[simp] theorem modSeats_floors (f : SeatId → Seat → Seat) : (modSeats f s).floors = s.floors := by simp only [modSeats]
@[simp] theorem modSeats_admissions (f : SeatId → Seat → Seat) : (modSeats f s).admissions = s.admissions := by simp only [modSeats]
@[simp] theorem modSeats_mix (f : SeatId → Seat → Seat) : (modSeats f s).mix = s.mix := by simp only [modSeats]
@[simp] theorem modSeats_planner (f : SeatId → Seat → Seat) : (modSeats f s).planner = s.planner := by simp only [modSeats]
@[simp] theorem modSeats_cal (f : SeatId → Seat → Seat) : (modSeats f s).cal = s.cal := by simp only [modSeats]
@[simp] theorem modSeats_standby (f : SeatId → Seat → Seat) : (modSeats f s).standby = s.standby := by simp only [modSeats]
@[simp] theorem modSeats_video (f : SeatId → Seat → Seat) : (modSeats f s).video = s.video := by simp only [modSeats]
@[simp] theorem modSeats_mgmt (f : SeatId → Seat → Seat) : (modSeats f s).mgmt = s.mgmt := by simp only [modSeats]
@[simp] theorem modSeats_cfg (f : SeatId → Seat → Seat) : (modSeats f s).cfg = s.cfg := by simp only [modSeats]
@[simp] theorem modSeats_trunk (f : SeatId → Seat → Seat) : (modSeats f s).trunk = s.trunk := by simp only [modSeats]
@[simp] theorem modSeats_fresh (f : SeatId → Seat → Seat) : (modSeats f s).fresh = s.fresh := by simp only [modSeats]
@[simp] theorem modSeats_pending (f : SeatId → Seat → Seat) : (modSeats f s).pending = s.pending := by simp only [modSeats]

/-! ## modFloor -/

@[simp] theorem modFloor_lines (r : SectionId) (f : Floor → Floor) : (modFloor r f s).lines = s.lines := rfl
@[simp] theorem modFloor_seats (r : SectionId) (f : Floor → Floor) : (modFloor r f s).seats = s.seats := rfl
@[simp] theorem modFloor_floors (r : SectionId) (f : Floor → Floor) : (modFloor r f s).floors = s.floors.set r (f s.floors[r]) := rfl
@[simp] theorem modFloor_admissions (r : SectionId) (f : Floor → Floor) : (modFloor r f s).admissions = s.admissions := rfl
@[simp] theorem modFloor_mix (r : SectionId) (f : Floor → Floor) : (modFloor r f s).mix = s.mix := rfl
@[simp] theorem modFloor_planner (r : SectionId) (f : Floor → Floor) : (modFloor r f s).planner = s.planner := rfl
@[simp] theorem modFloor_cal (r : SectionId) (f : Floor → Floor) : (modFloor r f s).cal = s.cal := rfl
@[simp] theorem modFloor_standby (r : SectionId) (f : Floor → Floor) : (modFloor r f s).standby = s.standby := rfl
@[simp] theorem modFloor_video (r : SectionId) (f : Floor → Floor) : (modFloor r f s).video = s.video := rfl
@[simp] theorem modFloor_mgmt (r : SectionId) (f : Floor → Floor) : (modFloor r f s).mgmt = s.mgmt := rfl
@[simp] theorem modFloor_cfg (r : SectionId) (f : Floor → Floor) : (modFloor r f s).cfg = s.cfg := rfl
@[simp] theorem modFloor_trunk (r : SectionId) (f : Floor → Floor) : (modFloor r f s).trunk = s.trunk := rfl
@[simp] theorem modFloor_fresh (r : SectionId) (f : Floor → Floor) : (modFloor r f s).fresh = s.fresh := rfl
@[simp] theorem modFloor_pending (r : SectionId) (f : Floor → Floor) : (modFloor r f s).pending = s.pending := rfl

/-! ## modMix -/

@[simp] theorem modMix_lines (f : Mix → Mix) : (modMix f s).lines = s.lines := rfl
@[simp] theorem modMix_seats (f : Mix → Mix) : (modMix f s).seats = s.seats := rfl
@[simp] theorem modMix_floors (f : Mix → Mix) : (modMix f s).floors = s.floors := rfl
@[simp] theorem modMix_admissions (f : Mix → Mix) : (modMix f s).admissions = s.admissions := rfl
@[simp] theorem modMix_mix (f : Mix → Mix) : (modMix f s).mix = f s.mix := rfl
@[simp] theorem modMix_planner (f : Mix → Mix) : (modMix f s).planner = s.planner := rfl
@[simp] theorem modMix_cal (f : Mix → Mix) : (modMix f s).cal = s.cal := rfl
@[simp] theorem modMix_standby (f : Mix → Mix) : (modMix f s).standby = s.standby := rfl
@[simp] theorem modMix_video (f : Mix → Mix) : (modMix f s).video = s.video := rfl
@[simp] theorem modMix_mgmt (f : Mix → Mix) : (modMix f s).mgmt = s.mgmt := rfl
@[simp] theorem modMix_cfg (f : Mix → Mix) : (modMix f s).cfg = s.cfg := rfl
@[simp] theorem modMix_trunk (f : Mix → Mix) : (modMix f s).trunk = s.trunk := rfl
@[simp] theorem modMix_fresh (f : Mix → Mix) : (modMix f s).fresh = s.fresh := rfl
@[simp] theorem modMix_pending (f : Mix → Mix) : (modMix f s).pending = s.pending := rfl

/-! ## modPlanner -/

@[simp] theorem modPlanner_lines (f : Planner → Planner) : (modPlanner f s).lines = s.lines := rfl
@[simp] theorem modPlanner_seats (f : Planner → Planner) : (modPlanner f s).seats = s.seats := rfl
@[simp] theorem modPlanner_floors (f : Planner → Planner) : (modPlanner f s).floors = s.floors := rfl
@[simp] theorem modPlanner_admissions (f : Planner → Planner) : (modPlanner f s).admissions = s.admissions := rfl
@[simp] theorem modPlanner_mix (f : Planner → Planner) : (modPlanner f s).mix = s.mix := rfl
@[simp] theorem modPlanner_planner (f : Planner → Planner) : (modPlanner f s).planner = f s.planner := rfl
@[simp] theorem modPlanner_cal (f : Planner → Planner) : (modPlanner f s).cal = s.cal := rfl
@[simp] theorem modPlanner_standby (f : Planner → Planner) : (modPlanner f s).standby = s.standby := rfl
@[simp] theorem modPlanner_video (f : Planner → Planner) : (modPlanner f s).video = s.video := rfl
@[simp] theorem modPlanner_mgmt (f : Planner → Planner) : (modPlanner f s).mgmt = s.mgmt := rfl
@[simp] theorem modPlanner_cfg (f : Planner → Planner) : (modPlanner f s).cfg = s.cfg := rfl
@[simp] theorem modPlanner_trunk (f : Planner → Planner) : (modPlanner f s).trunk = s.trunk := rfl
@[simp] theorem modPlanner_fresh (f : Planner → Planner) : (modPlanner f s).fresh = s.fresh := rfl
@[simp] theorem modPlanner_pending (f : Planner → Planner) : (modPlanner f s).pending = s.pending := rfl

/-! ## modCal -/

@[simp] theorem modCal_lines (f : Calendar → Calendar) : (modCal f s).lines = s.lines := rfl
@[simp] theorem modCal_seats (f : Calendar → Calendar) : (modCal f s).seats = s.seats := rfl
@[simp] theorem modCal_floors (f : Calendar → Calendar) : (modCal f s).floors = s.floors := rfl
@[simp] theorem modCal_admissions (f : Calendar → Calendar) : (modCal f s).admissions = s.admissions := rfl
@[simp] theorem modCal_mix (f : Calendar → Calendar) : (modCal f s).mix = s.mix := rfl
@[simp] theorem modCal_planner (f : Calendar → Calendar) : (modCal f s).planner = s.planner := rfl
@[simp] theorem modCal_cal (f : Calendar → Calendar) : (modCal f s).cal = f s.cal := rfl
@[simp] theorem modCal_standby (f : Calendar → Calendar) : (modCal f s).standby = s.standby := rfl
@[simp] theorem modCal_video (f : Calendar → Calendar) : (modCal f s).video = s.video := rfl
@[simp] theorem modCal_mgmt (f : Calendar → Calendar) : (modCal f s).mgmt = s.mgmt := rfl
@[simp] theorem modCal_cfg (f : Calendar → Calendar) : (modCal f s).cfg = s.cfg := rfl
@[simp] theorem modCal_trunk (f : Calendar → Calendar) : (modCal f s).trunk = s.trunk := rfl
@[simp] theorem modCal_fresh (f : Calendar → Calendar) : (modCal f s).fresh = s.fresh := rfl
@[simp] theorem modCal_pending (f : Calendar → Calendar) : (modCal f s).pending = s.pending := rfl

/-! ## modSlot -/

@[simp] theorem modSlot_lines (k : SlotId) (b : Option Booking) : (modSlot k b s).lines = s.lines := rfl
@[simp] theorem modSlot_seats (k : SlotId) (b : Option Booking) : (modSlot k b s).seats = s.seats := rfl
@[simp] theorem modSlot_floors (k : SlotId) (b : Option Booking) : (modSlot k b s).floors = s.floors := rfl
@[simp] theorem modSlot_admissions (k : SlotId) (b : Option Booking) : (modSlot k b s).admissions = s.admissions := rfl
@[simp] theorem modSlot_mix (k : SlotId) (b : Option Booking) : (modSlot k b s).mix = s.mix := rfl
@[simp] theorem modSlot_planner (k : SlotId) (b : Option Booking) : (modSlot k b s).planner = s.planner := rfl
@[simp] theorem modSlot_cal (k : SlotId) (b : Option Booking) : (modSlot k b s).cal = { s.cal with slots := s.cal.slots.set k b } := rfl
@[simp] theorem modSlot_standby (k : SlotId) (b : Option Booking) : (modSlot k b s).standby = s.standby := rfl
@[simp] theorem modSlot_video (k : SlotId) (b : Option Booking) : (modSlot k b s).video = s.video := rfl
@[simp] theorem modSlot_mgmt (k : SlotId) (b : Option Booking) : (modSlot k b s).mgmt = s.mgmt := rfl
@[simp] theorem modSlot_cfg (k : SlotId) (b : Option Booking) : (modSlot k b s).cfg = s.cfg := rfl
@[simp] theorem modSlot_trunk (k : SlotId) (b : Option Booking) : (modSlot k b s).trunk = s.trunk := rfl
@[simp] theorem modSlot_fresh (k : SlotId) (b : Option Booking) : (modSlot k b s).fresh = s.fresh := rfl
@[simp] theorem modSlot_pending (k : SlotId) (b : Option Booking) : (modSlot k b s).pending = s.pending := rfl

/-! ## modStandby -/

@[simp] theorem modStandby_lines (f : Standby → Standby) : (modStandby f s).lines = s.lines := rfl
@[simp] theorem modStandby_seats (f : Standby → Standby) : (modStandby f s).seats = s.seats := rfl
@[simp] theorem modStandby_floors (f : Standby → Standby) : (modStandby f s).floors = s.floors := rfl
@[simp] theorem modStandby_admissions (f : Standby → Standby) : (modStandby f s).admissions = s.admissions := rfl
@[simp] theorem modStandby_mix (f : Standby → Standby) : (modStandby f s).mix = s.mix := rfl
@[simp] theorem modStandby_planner (f : Standby → Standby) : (modStandby f s).planner = s.planner := rfl
@[simp] theorem modStandby_cal (f : Standby → Standby) : (modStandby f s).cal = s.cal := rfl
@[simp] theorem modStandby_standby (f : Standby → Standby) : (modStandby f s).standby = f s.standby := rfl
@[simp] theorem modStandby_video (f : Standby → Standby) : (modStandby f s).video = s.video := rfl
@[simp] theorem modStandby_mgmt (f : Standby → Standby) : (modStandby f s).mgmt = s.mgmt := rfl
@[simp] theorem modStandby_cfg (f : Standby → Standby) : (modStandby f s).cfg = s.cfg := rfl
@[simp] theorem modStandby_trunk (f : Standby → Standby) : (modStandby f s).trunk = s.trunk := rfl
@[simp] theorem modStandby_fresh (f : Standby → Standby) : (modStandby f s).fresh = s.fresh := rfl
@[simp] theorem modStandby_pending (f : Standby → Standby) : (modStandby f s).pending = s.pending := rfl

/-! ## modVideo -/

@[simp] theorem modVideo_lines (f : Video → Video) : (modVideo f s).lines = s.lines := rfl
@[simp] theorem modVideo_seats (f : Video → Video) : (modVideo f s).seats = s.seats := rfl
@[simp] theorem modVideo_floors (f : Video → Video) : (modVideo f s).floors = s.floors := rfl
@[simp] theorem modVideo_admissions (f : Video → Video) : (modVideo f s).admissions = s.admissions := rfl
@[simp] theorem modVideo_mix (f : Video → Video) : (modVideo f s).mix = s.mix := rfl
@[simp] theorem modVideo_planner (f : Video → Video) : (modVideo f s).planner = s.planner := rfl
@[simp] theorem modVideo_cal (f : Video → Video) : (modVideo f s).cal = s.cal := rfl
@[simp] theorem modVideo_standby (f : Video → Video) : (modVideo f s).standby = s.standby := rfl
@[simp] theorem modVideo_video (f : Video → Video) : (modVideo f s).video = f s.video := rfl
@[simp] theorem modVideo_mgmt (f : Video → Video) : (modVideo f s).mgmt = s.mgmt := rfl
@[simp] theorem modVideo_cfg (f : Video → Video) : (modVideo f s).cfg = s.cfg := rfl
@[simp] theorem modVideo_trunk (f : Video → Video) : (modVideo f s).trunk = s.trunk := rfl
@[simp] theorem modVideo_fresh (f : Video → Video) : (modVideo f s).fresh = s.fresh := rfl
@[simp] theorem modVideo_pending (f : Video → Video) : (modVideo f s).pending = s.pending := rfl

/-! ## modCamera -/

@[simp] theorem modCamera_lines (c : CameraId) (f : Camera → Camera) : (modCamera c f s).lines = s.lines := rfl
@[simp] theorem modCamera_seats (c : CameraId) (f : Camera → Camera) : (modCamera c f s).seats = s.seats := rfl
@[simp] theorem modCamera_floors (c : CameraId) (f : Camera → Camera) : (modCamera c f s).floors = s.floors := rfl
@[simp] theorem modCamera_admissions (c : CameraId) (f : Camera → Camera) : (modCamera c f s).admissions = s.admissions := rfl
@[simp] theorem modCamera_mix (c : CameraId) (f : Camera → Camera) : (modCamera c f s).mix = s.mix := rfl
@[simp] theorem modCamera_planner (c : CameraId) (f : Camera → Camera) : (modCamera c f s).planner = s.planner := rfl
@[simp] theorem modCamera_cal (c : CameraId) (f : Camera → Camera) : (modCamera c f s).cal = s.cal := rfl
@[simp] theorem modCamera_standby (c : CameraId) (f : Camera → Camera) : (modCamera c f s).standby = s.standby := rfl
@[simp] theorem modCamera_video (c : CameraId) (f : Camera → Camera) : (modCamera c f s).video = { s.video with cameras := s.video.cameras.set c (f s.video.cameras[c]) } := rfl
@[simp] theorem modCamera_mgmt (c : CameraId) (f : Camera → Camera) : (modCamera c f s).mgmt = s.mgmt := rfl
@[simp] theorem modCamera_cfg (c : CameraId) (f : Camera → Camera) : (modCamera c f s).cfg = s.cfg := rfl
@[simp] theorem modCamera_trunk (c : CameraId) (f : Camera → Camera) : (modCamera c f s).trunk = s.trunk := rfl
@[simp] theorem modCamera_fresh (c : CameraId) (f : Camera → Camera) : (modCamera c f s).fresh = s.fresh := rfl
@[simp] theorem modCamera_pending (c : CameraId) (f : Camera → Camera) : (modCamera c f s).pending = s.pending := rfl

/-! ## modScreen -/

@[simp] theorem modScreen_lines (k : ScreenId) (f : Screen → Screen) : (modScreen k f s).lines = s.lines := rfl
@[simp] theorem modScreen_seats (k : ScreenId) (f : Screen → Screen) : (modScreen k f s).seats = s.seats := rfl
@[simp] theorem modScreen_floors (k : ScreenId) (f : Screen → Screen) : (modScreen k f s).floors = s.floors := rfl
@[simp] theorem modScreen_admissions (k : ScreenId) (f : Screen → Screen) : (modScreen k f s).admissions = s.admissions := rfl
@[simp] theorem modScreen_mix (k : ScreenId) (f : Screen → Screen) : (modScreen k f s).mix = s.mix := rfl
@[simp] theorem modScreen_planner (k : ScreenId) (f : Screen → Screen) : (modScreen k f s).planner = s.planner := rfl
@[simp] theorem modScreen_cal (k : ScreenId) (f : Screen → Screen) : (modScreen k f s).cal = s.cal := rfl
@[simp] theorem modScreen_standby (k : ScreenId) (f : Screen → Screen) : (modScreen k f s).standby = s.standby := rfl
@[simp] theorem modScreen_video (k : ScreenId) (f : Screen → Screen) : (modScreen k f s).video = { s.video with screens := s.video.screens.set k (f s.video.screens[k]) } := rfl
@[simp] theorem modScreen_mgmt (k : ScreenId) (f : Screen → Screen) : (modScreen k f s).mgmt = s.mgmt := rfl
@[simp] theorem modScreen_cfg (k : ScreenId) (f : Screen → Screen) : (modScreen k f s).cfg = s.cfg := rfl
@[simp] theorem modScreen_trunk (k : ScreenId) (f : Screen → Screen) : (modScreen k f s).trunk = s.trunk := rfl
@[simp] theorem modScreen_fresh (k : ScreenId) (f : Screen → Screen) : (modScreen k f s).fresh = s.fresh := rfl
@[simp] theorem modScreen_pending (k : ScreenId) (f : Screen → Screen) : (modScreen k f s).pending = s.pending := rfl

/-! ## modFollow -/

@[simp] theorem modFollow_lines (r : SectionId) (f : Follow → Follow) : (modFollow r f s).lines = s.lines := rfl
@[simp] theorem modFollow_seats (r : SectionId) (f : Follow → Follow) : (modFollow r f s).seats = s.seats := rfl
@[simp] theorem modFollow_floors (r : SectionId) (f : Follow → Follow) : (modFollow r f s).floors = s.floors := rfl
@[simp] theorem modFollow_admissions (r : SectionId) (f : Follow → Follow) : (modFollow r f s).admissions = s.admissions := rfl
@[simp] theorem modFollow_mix (r : SectionId) (f : Follow → Follow) : (modFollow r f s).mix = s.mix := rfl
@[simp] theorem modFollow_planner (r : SectionId) (f : Follow → Follow) : (modFollow r f s).planner = s.planner := rfl
@[simp] theorem modFollow_cal (r : SectionId) (f : Follow → Follow) : (modFollow r f s).cal = s.cal := rfl
@[simp] theorem modFollow_standby (r : SectionId) (f : Follow → Follow) : (modFollow r f s).standby = s.standby := rfl
@[simp] theorem modFollow_video (r : SectionId) (f : Follow → Follow) : (modFollow r f s).video = { s.video with follow := s.video.follow.set r (f s.video.follow[r]) } := rfl
@[simp] theorem modFollow_mgmt (r : SectionId) (f : Follow → Follow) : (modFollow r f s).mgmt = s.mgmt := rfl
@[simp] theorem modFollow_cfg (r : SectionId) (f : Follow → Follow) : (modFollow r f s).cfg = s.cfg := rfl
@[simp] theorem modFollow_trunk (r : SectionId) (f : Follow → Follow) : (modFollow r f s).trunk = s.trunk := rfl
@[simp] theorem modFollow_fresh (r : SectionId) (f : Follow → Follow) : (modFollow r f s).fresh = s.fresh := rfl
@[simp] theorem modFollow_pending (r : SectionId) (f : Follow → Follow) : (modFollow r f s).pending = s.pending := rfl

/-! ## modMgmt -/

@[simp] theorem modMgmt_lines (f : Mgmt → Mgmt) : (modMgmt f s).lines = s.lines := rfl
@[simp] theorem modMgmt_seats (f : Mgmt → Mgmt) : (modMgmt f s).seats = s.seats := rfl
@[simp] theorem modMgmt_floors (f : Mgmt → Mgmt) : (modMgmt f s).floors = s.floors := rfl
@[simp] theorem modMgmt_admissions (f : Mgmt → Mgmt) : (modMgmt f s).admissions = s.admissions := rfl
@[simp] theorem modMgmt_mix (f : Mgmt → Mgmt) : (modMgmt f s).mix = s.mix := rfl
@[simp] theorem modMgmt_planner (f : Mgmt → Mgmt) : (modMgmt f s).planner = s.planner := rfl
@[simp] theorem modMgmt_cal (f : Mgmt → Mgmt) : (modMgmt f s).cal = s.cal := rfl
@[simp] theorem modMgmt_standby (f : Mgmt → Mgmt) : (modMgmt f s).standby = s.standby := rfl
@[simp] theorem modMgmt_video (f : Mgmt → Mgmt) : (modMgmt f s).video = s.video := rfl
@[simp] theorem modMgmt_mgmt (f : Mgmt → Mgmt) : (modMgmt f s).mgmt = f s.mgmt := rfl
@[simp] theorem modMgmt_cfg (f : Mgmt → Mgmt) : (modMgmt f s).cfg = s.cfg := rfl
@[simp] theorem modMgmt_trunk (f : Mgmt → Mgmt) : (modMgmt f s).trunk = s.trunk := rfl
@[simp] theorem modMgmt_fresh (f : Mgmt → Mgmt) : (modMgmt f s).fresh = s.fresh := rfl
@[simp] theorem modMgmt_pending (f : Mgmt → Mgmt) : (modMgmt f s).pending = s.pending := rfl

/-! ## modTrunk -/

@[simp] theorem modTrunk_lines (f : Trunk → Trunk) : (modTrunk f s).lines = s.lines := rfl
@[simp] theorem modTrunk_seats (f : Trunk → Trunk) : (modTrunk f s).seats = s.seats := rfl
@[simp] theorem modTrunk_floors (f : Trunk → Trunk) : (modTrunk f s).floors = s.floors := rfl
@[simp] theorem modTrunk_admissions (f : Trunk → Trunk) : (modTrunk f s).admissions = s.admissions := rfl
@[simp] theorem modTrunk_mix (f : Trunk → Trunk) : (modTrunk f s).mix = s.mix := rfl
@[simp] theorem modTrunk_planner (f : Trunk → Trunk) : (modTrunk f s).planner = s.planner := rfl
@[simp] theorem modTrunk_cal (f : Trunk → Trunk) : (modTrunk f s).cal = s.cal := rfl
@[simp] theorem modTrunk_standby (f : Trunk → Trunk) : (modTrunk f s).standby = s.standby := rfl
@[simp] theorem modTrunk_video (f : Trunk → Trunk) : (modTrunk f s).video = s.video := rfl
@[simp] theorem modTrunk_mgmt (f : Trunk → Trunk) : (modTrunk f s).mgmt = s.mgmt := rfl
@[simp] theorem modTrunk_cfg (f : Trunk → Trunk) : (modTrunk f s).cfg = s.cfg := rfl
@[simp] theorem modTrunk_trunk (f : Trunk → Trunk) : (modTrunk f s).trunk = f s.trunk := rfl
@[simp] theorem modTrunk_fresh (f : Trunk → Trunk) : (modTrunk f s).fresh = s.fresh := rfl
@[simp] theorem modTrunk_pending (f : Trunk → Trunk) : (modTrunk f s).pending = s.pending := rfl

/-! ## raiseEvent -/

@[simp] theorem raiseEvent_lines (k : EventKind) (x v : Nat) : (raiseEvent k x v s).lines = s.lines := rfl
@[simp] theorem raiseEvent_seats (k : EventKind) (x v : Nat) : (raiseEvent k x v s).seats = s.seats := rfl
@[simp] theorem raiseEvent_floors (k : EventKind) (x v : Nat) : (raiseEvent k x v s).floors = s.floors := rfl
@[simp] theorem raiseEvent_admissions (k : EventKind) (x v : Nat) : (raiseEvent k x v s).admissions = s.admissions := rfl
@[simp] theorem raiseEvent_mix (k : EventKind) (x v : Nat) : (raiseEvent k x v s).mix = s.mix := rfl
@[simp] theorem raiseEvent_planner (k : EventKind) (x v : Nat) : (raiseEvent k x v s).planner = s.planner := rfl
@[simp] theorem raiseEvent_cal (k : EventKind) (x v : Nat) : (raiseEvent k x v s).cal = s.cal := rfl
@[simp] theorem raiseEvent_standby (k : EventKind) (x v : Nat) : (raiseEvent k x v s).standby = s.standby := rfl
@[simp] theorem raiseEvent_video (k : EventKind) (x v : Nat) : (raiseEvent k x v s).video = s.video := rfl
@[simp] theorem raiseEvent_mgmt (k : EventKind) (x v : Nat) : (raiseEvent k x v s).mgmt = queueEvent ⟨k, octet x, octet v, 0⟩ s.mgmt := rfl
@[simp] theorem raiseEvent_cfg (k : EventKind) (x v : Nat) : (raiseEvent k x v s).cfg = s.cfg := rfl
@[simp] theorem raiseEvent_trunk (k : EventKind) (x v : Nat) : (raiseEvent k x v s).trunk = s.trunk := rfl
@[simp] theorem raiseEvent_fresh (k : EventKind) (x v : Nat) : (raiseEvent k x v s).fresh = s.fresh := rfl
@[simp] theorem raiseEvent_pending (k : EventKind) (x v : Nat) : (raiseEvent k x v s).pending = s.pending := rfl

/-! ## takeFresh -/

@[simp] theorem takeFresh_lines : (takeFresh s).lines = s.lines := rfl
@[simp] theorem takeFresh_seats : (takeFresh s).seats = s.seats := rfl
@[simp] theorem takeFresh_floors : (takeFresh s).floors = s.floors := rfl
@[simp] theorem takeFresh_admissions : (takeFresh s).admissions = s.admissions := rfl
@[simp] theorem takeFresh_mix : (takeFresh s).mix = s.mix := rfl
@[simp] theorem takeFresh_planner : (takeFresh s).planner = s.planner := rfl
@[simp] theorem takeFresh_cal : (takeFresh s).cal = s.cal := rfl
@[simp] theorem takeFresh_standby : (takeFresh s).standby = s.standby := rfl
@[simp] theorem takeFresh_video : (takeFresh s).video = s.video := rfl
@[simp] theorem takeFresh_mgmt : (takeFresh s).mgmt = s.mgmt := rfl
@[simp] theorem takeFresh_cfg : (takeFresh s).cfg = s.cfg := rfl
@[simp] theorem takeFresh_trunk : (takeFresh s).trunk = s.trunk := rfl
@[simp] theorem takeFresh_fresh : (takeFresh s).fresh = s.fresh + 1 := rfl
@[simp] theorem takeFresh_pending : (takeFresh s).pending = s.pending := rfl

end Sys2Proof.Machine
end

