-- ==== Sys2Proof/Laws/Calm.lean ====
section
/-! SUPPORT. What the shared operations can do, said once. `Steady` holds of every operation of the blocks below the Management
Unit: configuration, trunk and the queue of commands stay, events enter the queue by R202 alone, and directives move by R186 and
R187 alone. `Calm` holds of every operation of floors, calendar, screens and standby: it says what those never touch. -/

namespace Sys2Proof.Machine

open Sys2Proof

/-! ## Steps of the event queue and of the media link -/

/-- One event is raised. -/
def EventStep (m n : Mgmt) : Prop := ∃ e, n = queueEvent e m

/-- Events are raised, and nothing else happens at the Management Unit. -/
abbrev EventsFrom (m n : Mgmt) : Prop := Relation.ReflTransGen EventStep m n

/-- One step of the media link. -/
inductive VideoStep (v : Video) : Video → Prop where
  | records (w : Video) (q : w.queue = v.queue) (f : w.inFlight = v.inFlight) : VideoStep v w
  | join (d : Directive) : VideoStep v (joinQueue d v)
  | send : VideoStep v (sendOne v)
  | drop (keep : Directive → Bool) : VideoStep v { v with queue := v.queue.filter keep }
  | land (t : Target) : VideoStep v { v with inFlight := v.inFlight.filter fun x => targetOfDirective x.directive != t }

/-- Any number of steps of the media link. -/
abbrev VideoFrom (v w : Video) : Prop := Relation.ReflTransGen VideoStep v w

/-! ## The two relations -/

/-- What the blocks below the Management Unit leave, and how they move the two queues. -/
structure Steady (s t : State) : Prop where
  cfg : t.cfg = s.cfg
  trunk : t.trunk = s.trunk
  fresh : t.fresh = s.fresh
  pending : t.pending = s.pending
  events : EventsFrom s.mgmt t.mgmt
  media : VideoFrom s.video t.video

/-- What floors, calendar, screens and standby leave of a seat's record. -/
structure SeatCalm (x y : Seat) : Prop where
  present : y.present = x.present
  kind : y.kind = x.kind
  missCount : y.missCount = x.missCount
  identify : y.identify = x.identify
  latchEnable : y.latchEnable = x.latchEnable
  gate : y.gate = x.gate ∨ y.gate = 0
  env : y.env = x.env ∨ y.env = 0
  loud : y.loud = x.loud ∨ y.loud = 0
  speakSecs : y.speakSecs = x.speakSecs ∨ y.speakSecs = 0
  silence : y.silence = x.silence ∨ y.silence = 0

/-- What floors, calendar, screens and standby leave. -/
structure Calm (s t : State) : Prop extends Steady s t where
  planner : t.planner = s.planner
  clips : t.mix.clips = s.mix.clips
  computed : t.mix.computed = s.mix.computed
  valid : t.cal.valid = s.cal.valid
  minute : t.cal.minute = s.cal.minute
  second : t.cal.second = s.cal.second
  frame : t.cal.frame = s.cal.frame
  held : t.cal.held = s.cal.held
  lines : ∀ l : SectionId, ∃ p, t.lines[l] = { s.lines[l] with pollPhase := p }
  seats : ∀ i : SeatId, SeatCalm s.seats[i] t.seats[i]
  cameras : t.video.cameras = s.video.cameras
  screens : t.video.screens = s.video.screens
  idle : t.standby.idle = s.standby.idle ∨ t.standby.idle = 0
  waking : s.standby.room = .waking → t.standby.room = .waking ∧ t.standby.wake = s.standby.wake
  awake : s.standby.room = .active → s.standby.idle < idleDelayFrames s → t.standby.room = .active

theorem Steady.refl (s : State) : Steady s s := ⟨rfl, rfl, rfl, rfl, .refl, .refl⟩

theorem Steady.trans {s t u : State} (h : Steady s t) (k : Steady t u) : Steady s u :=
  ⟨k.cfg.trans h.cfg, k.trunk.trans h.trunk, k.fresh.trans h.fresh, k.pending.trans h.pending, h.events.trans k.events,
    h.media.trans k.media⟩

theorem SeatCalm.refl (x : Seat) : SeatCalm x x :=
  ⟨rfl, rfl, rfl, rfl, rfl, .inl rfl, .inl rfl, .inl rfl, .inl rfl, .inl rfl⟩

theorem SeatCalm.trans {x y z : Seat} (h : SeatCalm x y) (k : SeatCalm y z) : SeatCalm x z where
  present := k.present.trans h.present
  kind := k.kind.trans h.kind
  missCount := k.missCount.trans h.missCount
  identify := k.identify.trans h.identify
  latchEnable := k.latchEnable.trans h.latchEnable
  gate := k.gate.elim (fun e => e ▸ h.gate) .inr
  env := k.env.elim (fun e => e ▸ h.env) .inr
  loud := k.loud.elim (fun e => e ▸ h.loud) .inr
  speakSecs := k.speakSecs.elim (fun e => e ▸ h.speakSecs) .inr
  silence := k.silence.elim (fun e => e ▸ h.silence) .inr

theorem idleDelayFrames_congr {s t : State} (h : t.cfg = s.cfg) : idleDelayFrames t = idleDelayFrames s := by
  simp only [idleDelayFrames, h]

theorem Calm.refl (s : State) : Calm s s where
  toSteady := Steady.refl s
  planner := rfl
  clips := rfl
  computed := rfl
  valid := rfl
  minute := rfl
  second := rfl
  frame := rfl
  held := rfl
  lines := fun l => ⟨s.lines[l].pollPhase, rfl⟩
  seats := fun i => SeatCalm.refl s.seats[i]
  cameras := rfl
  screens := rfl
  idle := .inl rfl
  waking := fun h => ⟨h, rfl⟩
  awake := fun h _ => h

theorem Calm.idle_le {s t : State} (h : Calm s t) : t.standby.idle ≤ s.standby.idle :=
  h.idle.elim (fun e => e.le) (fun e => e ▸ Nat.zero_le _)

theorem Calm.trans {s t u : State} (h : Calm s t) (k : Calm t u) : Calm s u where
  toSteady := h.toSteady.trans k.toSteady
  planner := k.planner.trans h.planner
  clips := k.clips.trans h.clips
  computed := k.computed.trans h.computed
  valid := k.valid.trans h.valid
  minute := k.minute.trans h.minute
  second := k.second.trans h.second
  frame := k.frame.trans h.frame
  held := k.held.trans h.held
  lines := fun l => by
    obtain ⟨p, hp⟩ := h.lines l
    obtain ⟨q, hq⟩ := k.lines l
    exact ⟨q, by rw [hq, hp]⟩
  seats := fun i => (h.seats i).trans (k.seats i)
  cameras := k.cameras.trans h.cameras
  screens := k.screens.trans h.screens
  idle := k.idle.elim (fun e => e ▸ h.idle) .inr
  waking := fun r => by
    obtain ⟨a, b⟩ := h.waking r
    obtain ⟨c, d⟩ := k.waking a
    exact ⟨c, d.trans b⟩
  awake := fun r d =>
    k.awake (h.awake r d) (by rw [idleDelayFrames_congr h.cfg]; exact lt_of_le_of_lt h.idle_le d)

/-! ## The plain updates -/

/-- An update that changes only the floors, the admission count and the booking slots. -/
theorem calm_of_records {s t : State} (hl : t.lines = s.lines) (hs : t.seats = s.seats) (hm : t.mix = s.mix)
    (hp : t.planner = s.planner) (hc : t.cal = { s.cal with slots := t.cal.slots }) (hb : t.standby = s.standby)
    (hv : t.video = s.video) (hg : t.mgmt = s.mgmt) (hf : t.cfg = s.cfg) (ht : t.trunk = s.trunk) (hn : t.fresh = s.fresh)
    (hq : t.pending = s.pending) : Calm s t where
  toSteady := ⟨hf, ht, hn, hq, hg ▸ .refl, hv ▸ .refl⟩
  planner := hp
  clips := by rw [hm]
  computed := by rw [hm]
  valid := by rw [hc]
  minute := by rw [hc]
  second := by rw [hc]
  frame := by rw [hc]
  held := by rw [hc]
  lines := fun l => ⟨s.lines[l].pollPhase, by rw [hl]⟩
  seats := fun i => by rw [hs]; exact SeatCalm.refl _
  cameras := by rw [hv]
  screens := by rw [hv]
  idle := .inl (by rw [hb])
  waking := fun h => by rw [hb]; exact ⟨h, rfl⟩
  awake := fun h _ => by rw [hb]; exact h

theorem modFloor_calm (r : SectionId) (f : Floor → Floor) (s : State) : Calm s (modFloor r f s) :=
  calm_of_records rfl rfl rfl rfl rfl rfl rfl rfl rfl rfl rfl rfl

theorem modSlot_calm (k : SlotId) (b : Option Booking) (s : State) : Calm s (modSlot k b s) :=
  calm_of_records rfl rfl rfl rfl rfl rfl rfl rfl rfl rfl rfl rfl

/-- A change of one seat's record that `SeatCalm` allows. -/
theorem modSeat_calm (i : SeatId) {f : Seat → Seat} (hf : ∀ x, SeatCalm x (f x)) (s : State) : Calm s (modSeat i f s) where
  toSteady := ⟨rfl, rfl, rfl, rfl, .refl, .refl⟩
  planner := rfl
  clips := rfl
  computed := rfl
  valid := rfl
  minute := rfl
  second := rfl
  frame := rfl
  held := rfl
  lines := fun l => ⟨s.lines[l].pollPhase, rfl⟩
  seats := fun j => by
    by_cases h : i = j
    · subst h; simpa using hf _
    · have h' : i.val ≠ j.val := fun e => h (Fin.ext e)
      simp only [modSeat_seats, Fin.getElem_fin, Vector.getElem_set_ne _ _ h']
      exact SeatCalm.refl _
  cameras := rfl
  screens := rfl
  idle := .inl rfl
  waking := fun h => ⟨h, rfl⟩
  awake := fun h _ => h

/-- A change of the event queue alone. -/
theorem raiseEvent_calm (k : EventKind) (x v : Nat) (s : State) : Calm s (raiseEvent k x v s) :=
  { Calm.refl s with events := .single ⟨_, rfl⟩ }

/-- A change of the media link and the follow records that leaves the runtime records of cameras and screens. -/
theorem modVideo_calm {f : Video → Video} {s : State} (h : VideoFrom s.video (f s.video))
    (hc : (f s.video).cameras = s.video.cameras) (hk : (f s.video).screens = s.video.screens) : Calm s (modVideo f s) :=
  { Calm.refl s with media := h, cameras := hc, screens := hk }

theorem modFollow_calm (r : SectionId) (f : Follow → Follow) (s : State) : Calm s (modFollow r f s) :=
  modVideo_calm (.single (.records _ rfl rfl)) rfl rfl

/-- Every item of a list handled in turn. -/
theorem forEach_calm {α : Type} {f : α → State → State} (hf : ∀ x s, Calm s (f x s)) (xs : List α) (s : State) :
    Calm s (forEach xs f s) := by
  induction xs generalizing s with
  | nil => exact Calm.refl s
  | cons x xs ih => exact (hf x s).trans (ih (f x s))

theorem restartIdle_calm (s : State) : Calm s (restartIdle s) :=
  { Calm.refl s with idle := .inr rfl }

theorem startDenied_calm (i : SeatId) (s : State) : Calm s (startDenied i s) := by
  refine modSeat_calm i ?_ s
  exact fun _ => ⟨rfl, rfl, rfl, rfl, rfl, .inl rfl, .inl rfl, .inl rfl, .inl rfl, .inl rfl⟩

theorem setMic_calm (i : SeatId) (m : MicState) (s : State) : Calm s (setMic i m s) := by
  unfold setMic
  split
  · exact Calm.refl s
  · refine Calm.trans ?_ (raiseEvent_calm _ _ _ _)
    have h : Calm s (modSeat i (fun x => { x with mic := m }) s) := by
      refine modSeat_calm i ?_ s
      exact fun _ => ⟨rfl, rfl, rfl, rfl, rfl, .inl rfl, .inl rfl, .inl rfl, .inl rfl, .inl rfl⟩
    split
    · exact h
    · exact h.trans (restartIdle_calm _)

/-! ## The media link leaves the runtime records -/

theorem sendOne_cameras (v : Video) : (sendOne v).cameras = v.cameras := by
  unfold sendOne
  repeat' split
  all_goals rfl

theorem sendOne_screens (v : Video) : (sendOne v).screens = v.screens := by
  unfold sendOne
  repeat' split
  all_goals rfl

theorem joinQueue_cameras (d : Directive) (v : Video) : (joinQueue d v).cameras = v.cameras := by
  unfold joinQueue
  repeat' split
  all_goals rfl

theorem joinQueue_screens (d : Directive) (v : Video) : (joinQueue d v).screens = v.screens := by
  unfold joinQueue
  repeat' split
  all_goals rfl

/-! ## The Screen Director -/

theorem enqueue_calm (d : Directive) (s : State) : Calm s (enqueue d s) := by
  refine modVideo_calm ?_ ?_ ?_
  · exact ((((Relation.ReflTransGen.single (.join d)).tail .send).tail .send).tail .send).tail .send
  · simp only [sendAll, sendOne_cameras, joinQueue_cameras]
  · simp only [sendAll, sendOne_screens, joinQueue_screens]

theorem unqueue_calm (p : Directive → Bool) (s : State) : Calm s (unqueue p s) :=
  modVideo_calm (.single (.drop _)) rfl rfl

theorem reconcile_calm (k : ScreenId) (s : State) : Calm s (reconcile k s) := by
  unfold reconcile
  dsimp only
  repeat' split
  all_goals first | with_reducible exact enqueue_calm _ _ | with_reducible exact unqueue_calm _ _ | with_reducible exact Calm.refl _

theorem reconcileAll_calm (s : State) : Calm s (reconcileAll s) := forEach_calm reconcile_calm _ s

theorem reconcileRoom_calm (r : SectionId) (s : State) : Calm s (reconcileRoom r s) := by
  refine forEach_calm (fun k t => ?_) _ s
  split
  · exact reconcile_calm k t
  · exact Calm.refl t

theorem dropAwaited_calm (r : SectionId) (s : State) : Calm s (dropAwaited r s) := by
  unfold dropAwaited
  split
  · exact Calm.refl s
  · exact (unqueue_calm _ _).trans (modFollow_calm _ _ _)

theorem startDwell_calm (r : SectionId) (s : State) : Calm s (startDwell r s) := by
  unfold startDwell
  repeat' split
  all_goals first | with_reducible exact modFollow_calm _ _ _ | with_reducible exact Calm.refl _

theorem putUp_calm (r : SectionId) (x : Shot) (s : State) : Calm s (putUp r x s) := by
  unfold putUp
  split
  · exact (((modFollow_calm _ _ _).trans (unqueue_calm _ _)).trans (startDwell_calm _ _)).trans (reconcileRoom_calm _ _)
  · exact (enqueue_calm _ _).trans (modFollow_calm _ _ _)

theorem actOverview_calm (r : SectionId) (s : State) : Calm s (actOverview r s) := by
  unfold actOverview
  dsimp only
  split
  · exact dropAwaited_calm r s
  · exact (dropAwaited_calm r s).trans (putUp_calm _ _ _)

theorem actCandidate_calm (r : SectionId) (s : State) : Calm s (actCandidate r s) := by
  unfold actCandidate
  split
  · exact (dropAwaited_calm r s).trans (putUp_calm _ _ _)
  · exact actOverview_calm r s

theorem candidateChange_calm (r : SectionId) (c : Option SeatId) (s : State) : Calm s (candidateChange r c s) := by
  unfold candidateChange
  dsimp only
  refine (modFollow_calm r (fun f => { f with candidate := c }) s).trans ?_
  repeat' split
  all_goals first | with_reducible exact Calm.refl _ | with_reducible exact modFollow_calm _ _ _ | with_reducible exact actCandidate_calm _ _

theorem resetFollow_calm (r : SectionId) (s : State) : Calm s (resetFollow r s) := by
  unfold resetFollow
  dsimp only
  exact (dropAwaited_calm r s).trans (modFollow_calm _ _ _)

theorem followSessionStart_calm (r : SectionId) (s : State) : Calm s (followSessionStart r s) := by
  unfold followSessionStart
  dsimp only
  split
  · exact (resetFollow_calm r s).trans (actCandidate_calm _ _)
  · exact resetFollow_calm r s

theorem dwellOver_calm (r : SectionId) (s : State) : Calm s (dwellOver r s) := by
  unfold dwellOver
  dsimp only
  refine (modFollow_calm r (fun f => { f with dwell := none }) s).trans ?_
  split
  · exact (modFollow_calm _ _ _).trans (actCandidate_calm _ _)
  · exact Calm.refl _

theorem setShare_calm (r : SectionId) (x : Option Share) (s : State) : Calm s (setShare r x s) :=
  (modFollow_calm _ _ _).trans (reconcileRoom_calm _ _)

theorem endShareOf_calm (i : SeatId) (s : State) : Calm s (endShareOf i s) := by
  refine forEach_calm (fun r t => ?_) _ s
  split
  · exact setShare_calm _ _ _
  · exact Calm.refl t

theorem sharePress_calm (i : SeatId) (s : State) : Calm s (sharePress i s) := by
  unfold sharePress
  dsimp only
  repeat' split
  all_goals first | with_reducible exact setShare_calm _ _ _ | with_reducible exact startDenied_calm _ _

theorem resetFollows_calm (s : State) : Calm s (resetFollows s) := forEach_calm resetFollow_calm _ s

/-! ## The Floor Controller -/

theorem leaveQueue_calm (r : SectionId) (i : SeatId) (s : State) : Calm s (leaveQueue r i s) := by
  unfold leaveQueue
  split
  · exact (modFloor_calm _ _ _).trans (raiseEvent_calm _ _ _ _)
  · exact Calm.refl s

theorem withdraw_calm (r : SectionId) (i : SeatId) (s : State) : Calm s (withdraw r i s) :=
  (leaveQueue_calm r i s).trans (setMic_calm _ _ _)

theorem gateZero_calm (i : SeatId) (s : State) : Calm s (modSeat i (fun x => { x with gate := 0 }) s) := by
  refine modSeat_calm i ?_ s
  exact fun _ => ⟨rfl, rfl, rfl, rfl, rfl, .inr rfl, .inl rfl, .inl rfl, .inl rfl, .inl rfl⟩

theorem warningFlag_calm (i : SeatId) (b : Bool) (s : State) :
    Calm s (modSeat i (fun x => { x with limitWarning := b }) s) := by
  refine modSeat_calm i ?_ s
  exact fun _ => ⟨rfl, rfl, rfl, rfl, rfl, .inl rfl, .inl rfl, .inl rfl, .inl rfl, .inl rfl⟩

theorem countsZero_calm (i : SeatId) (s : State) : Calm s (modSeat i countsZero s) := by
  refine modSeat_calm i ?_ s
  exact fun _ => ⟨rfl, rfl, rfl, rfl, rfl, .inl rfl, .inl rfl, .inl rfl, .inr rfl, .inr rfl⟩

theorem joinTail_calm (r : SectionId) (i : SeatId) (s : State) : Calm s (joinTail r i s) :=
  (((modFloor_calm _ _ s).trans (gateZero_calm i _)).trans (setMic_calm _ _ _)).trans (raiseEvent_calm _ _ _ _)

theorem queueOrDeny_calm (r : SectionId) (i : SeatId) (p : Profile) (s : State) : Calm s (queueOrDeny r i p s) := by
  unfold queueOrDeny
  split
  · exact joinTail_calm _ _ _
  · exact startDenied_calm _ _

theorem emptyQueue_calm (r : SectionId) (s : State) : Calm s (emptyQueue r s) := forEach_calm (withdraw_calm r) _ s

theorem renumberAll_calm (s : State) : Calm s (renumberAll s) :=
  calm_of_records rfl rfl rfl rfl rfl rfl rfl rfl rfl rfl rfl rfl

theorem nextAdmission_calm (s : State) : Calm s (nextAdmission s) :=
  calm_of_records rfl rfl rfl rfl rfl rfl rfl rfl rfl rfl rfl rfl

theorem roomForAdmission_calm (s : State) : Calm s (roomForAdmission s) := by
  unfold roomForAdmission
  split
  · exact Calm.refl s
  · exact renumberAll_calm s

theorem dropEntry_calm (r : SectionId) (i : SeatId) (s : State) : Calm s (dropEntry r i s) := modFloor_calm _ _ _

theorem admitSeat_calm (r : SectionId) (i : SeatId) (mark : Bool) (s : State) : Calm s (admitSeat r i mark s) :=
  ((((((roomForAdmission_calm s).trans (leaveQueue_calm r i _)).trans (dropEntry_calm r i _)).trans (nextAdmission_calm _)).trans
    (modFloor_calm _ _ _)).trans (countsZero_calm i _)).trans (setMic_calm _ _ _)

theorem closeSeat_calm (r : SectionId) (i : SeatId) (s : State) : Calm s (closeSeat r i s) := by
  unfold closeSeat
  dsimp only
  split
  · exact ((dropEntry_calm r i s).trans (warningFlag_calm i _ _)).trans (setMic_calm _ _ _)
  · exact Calm.refl s

theorem closeAll_calm (r : SectionId) (s : State) : Calm s (closeAll r s) := forEach_calm (closeSeat_calm r) _ s

theorem closeOldest_calm (r : SectionId) (s : State) : Calm s (closeOldest r s) := by
  unfold closeOldest
  split
  · exact Calm.refl s
  · exact closeSeat_calm _ _ _

theorem closeNewest_calm (r : SectionId) (s : State) : Calm s (closeNewest r s) := by
  unfold closeNewest
  split
  · exact Calm.refl s
  · exact closeSeat_calm _ _ _

theorem closeExcess_calm (r : SectionId) (m n : Nat) (s : State) : Calm s (closeExcess r m n s) := by
  induction n generalizing s with
  | zero => exact Calm.refl s
  | succ n ih =>
    unfold closeExcess
    split
    · exact (closeNewest_calm r s).trans (ih _)
    · exact Calm.refl s

theorem autoAdvanceN_calm (r : SectionId) (n : Nat) (s : State) : Calm s (autoAdvanceN r n s) := by
  induction n generalizing s with
  | zero => exact Calm.refl s
  | succ n ih =>
    unfold autoAdvanceN
    repeat' split
    · exact Calm.refl s
    · exact (admitSeat_calm r _ _ s).trans (ih _)
    · exact Calm.refl s

theorem autoAdvance_calm (r : SectionId) (s : State) : Calm s (autoAdvance r s) := autoAdvanceN_calm r _ s

theorem updateSpeaker_calm (r : SectionId) (s : State) : Calm s (updateSpeaker r s) := by
  unfold updateSpeaker
  dsimp only
  split
  · exact Calm.refl s
  · exact (modFloor_calm _ _ _).trans (candidateChange_calm _ _ _)

theorem talkNormal_calm (r : SectionId) (i : SeatId) (p : Profile) (s : State) : Calm s (talkNormal r i p s) := by
  unfold talkNormal
  dsimp only
  repeat' split
  all_goals first
    | with_reducible exact admitSeat_calm _ _ _ _ | with_reducible exact startDenied_calm _ _ | with_reducible exact queueOrDeny_calm _ _ _ _
    | with_reducible exact (closeOldest_calm _ _).trans (admitSeat_calm _ _ _ _)

theorem talkPriority_calm (r : SectionId) (i : SeatId) (p : Profile) (s : State) : Calm s (talkPriority r i p s) := by
  unfold talkPriority
  split
  · exact queueOrDeny_calm _ _ _ _
  · exact startDenied_calm _ _

theorem delegateTalk_calm (r : SectionId) (i : SeatId) (p : Profile) (s : State) : Calm s (delegateTalk r i p s) := by
  unfold delegateTalk
  repeat' split
  all_goals first
    | with_reducible exact withdraw_calm _ _ _ | with_reducible exact closeSeat_calm _ _ _ | with_reducible exact talkPriority_calm _ _ _ _
    | with_reducible exact talkNormal_calm _ _ _ _

theorem delegateCancel_calm (r : SectionId) (i : SeatId) (s : State) : Calm s (delegateCancel r i s) := by
  unfold delegateCancel
  split <;> first | exact withdraw_calm _ _ _ | exact closeSeat_calm _ _ _ | exact Calm.refl _

theorem chairTalk_calm (r : SectionId) (i : SeatId) (s : State) : Calm s (chairTalk r i s) := by
  unfold chairTalk
  split <;> first | exact closeSeat_calm _ _ _ | exact Calm.refl _ | exact admitSeat_calm _ _ _ _

theorem chairCancel_calm (r : SectionId) (i : SeatId) (s : State) : Calm s (chairCancel r i s) := by
  unfold chairCancel
  split <;> first | exact closeSeat_calm _ _ _ | exact Calm.refl _

theorem chairNext_calm (r : SectionId) (p : Profile) (s : State) : Calm s (chairNext r p s) := by
  unfold chairNext
  repeat' split
  all_goals first
    | with_reducible exact Calm.refl _ | with_reducible exact admitSeat_calm _ _ _ _ | with_reducible exact (closeOldest_calm _ _).trans (admitSeat_calm _ _ _ _)

theorem chairClear_calm (r : SectionId) (s : State) : Calm s (chairClear r s) :=
  (forEach_calm (closeSeat_calm r) _ s).trans (emptyQueue_calm _ _)

theorem suspendOthers_calm (r : SectionId) (s : State) : Calm s (suspendOthers r s) := by
  refine forEach_calm (fun i t => ?_) _ s
  split
  · exact setMic_calm _ _ _
  · exact Calm.refl t

theorem priorityPress_calm (r : SectionId) (i : SeatId) (s : State) : Calm s (priorityPress r i s) := by
  unfold priorityPress
  dsimp only
  split
  · exact Calm.refl s
  · have h : Calm s (if (floorOf s r).holders.isEmpty then
        suspendOthers r (modFloor r (fun f => { f with state := .priority })
          (modFloor r (fun f => { f with holders := f.holders ++ [i] }) s))
        else modFloor r (fun f => { f with holders := f.holders ++ [i] }) s) := by
      split
      · exact ((modFloor_calm _ _ _).trans (modFloor_calm _ _ _)).trans (suspendOthers_calm _ _)
      · exact modFloor_calm _ _ _
    revert h
    generalize (if (floorOf s r).holders.isEmpty then
        suspendOthers r (modFloor r (fun f => { f with state := .priority })
          (modFloor r (fun f => { f with holders := f.holders ++ [i] }) s))
        else modFloor r (fun f => { f with holders := f.holders ++ [i] }) s) = t
    intro h
    split
    · exact h
    · exact h.trans (admitSeat_calm _ _ _ _)

theorem resumeFloor_calm (r : SectionId) (s : State) : Calm s (resumeFloor r s) := by
  refine (modFloor_calm r (fun f => { f with state := .normal }) s).trans (forEach_calm (fun i t => ?_) _ _)
  split
  · exact setMic_calm _ _ _
  · exact Calm.refl t

theorem resumeIfFree_calm (r : SectionId) (s : State) : Calm s (resumeIfFree r s) := by
  unfold resumeIfFree
  split
  · exact resumeFloor_calm _ _
  · exact Calm.refl s

theorem dropHolder_calm (r : SectionId) (i : SeatId) (s : State) : Calm s (dropHolder r i s) := modFloor_calm _ _ _

theorem priorityRelease_calm (r : SectionId) (i : SeatId) (s : State) : Calm s (priorityRelease r i s) := by
  unfold priorityRelease
  dsimp only
  split
  · refine Calm.trans (dropHolder_calm r i s) (Calm.trans ?_ (resumeIfFree_calm r _))
    split
    · exact closeSeat_calm _ _ _
    · exact Calm.refl _
  · exact Calm.refl s

theorem inactiveKey_calm (i : SeatId) (k : Key) (s : State) : Calm s (inactiveKey i k s) := by
  unfold inactiveKey
  split
  · exact startDenied_calm _ _
  · exact Calm.refl s

theorem sessionKey_calm (r : SectionId) (i : SeatId) (k : Key) (p : Profile) (s : State) : Calm s (sessionKey r i k p s) := by
  unfold sessionKey
  repeat' split
  all_goals first
    | with_reducible exact chairTalk_calm _ _ _ | with_reducible exact chairCancel_calm _ _ _ | with_reducible exact chairNext_calm _ _ _ | with_reducible exact chairClear_calm _ _
    | with_reducible exact priorityPress_calm _ _ _ | with_reducible exact delegateTalk_calm _ _ _ _ | with_reducible exact delegateCancel_calm _ _ _ | with_reducible exact Calm.refl _

theorem floorKey_calm (r : SectionId) (i : SeatId) (k : Key) (s : State) : Calm s (floorKey r i k s) := by
  unfold floorKey
  repeat' split
  all_goals first | with_reducible exact inactiveKey_calm _ _ _ | with_reducible exact Calm.refl _ | with_reducible exact sessionKey_calm _ _ _ _ _

theorem floorLose_calm (r : SectionId) (i : SeatId) (s : State) : Calm s (floorLose r i s) :=
  ((((leaveQueue_calm r i s).trans (dropEntry_calm r i _)).trans (dropHolder_calm r i _)).trans (countsZero_calm i _)).trans
    (setMic_calm _ _ _)

theorem floorStart_calm (r : SectionId) (k : SlotId) (p : ProfileId) (s : State) : Calm s (floorStart r k p s) :=
  modFloor_calm _ _ _

theorem clearFloor_calm (r : SectionId) (s : State) : Calm s (clearFloor r s) :=
  ((closeAll_calm r s).trans (emptyQueue_calm r _)).trans (modFloor_calm _ _ _)

theorem floorEnd_calm (r : SectionId) (s : State) : Calm s (floorEnd r s) := by
  unfold floorEnd
  split
  · exact modFloor_calm _ _ _
  · exact ((clearFloor_calm r s).trans (modFloor_calm _ _ _)).trans (updateSpeaker_calm r _)

theorem freezeFloor_calm (r : SectionId) (s : State) : Calm s (freezeFloor r s) :=
  (clearFloor_calm r s).trans (modFloor_calm _ _ _)

theorem thawAll_calm (s : State) : Calm s (thawAll s) :=
  calm_of_records rfl rfl rfl rfl rfl rfl rfl rfl rfl rfl rfl rfl

theorem warnSeat_calm (i : SeatId) (s : State) : Calm s (warnSeat i s) :=
  (warningFlag_calm i true s).trans (raiseEvent_calm _ _ _ _)

theorem limitClose_calm (r : SectionId) (i : SeatId) (s : State) : Calm s (limitClose r i s) :=
  (closeSeat_calm r i s).trans (raiseEvent_calm _ _ _ _)

theorem limitTest_calm (r : SectionId) (i : SeatId) (p : Profile) (s : State) : Calm s (limitTest r i p s) := by
  unfold limitTest
  repeat' split
  all_goals first | with_reducible exact limitClose_calm _ _ _ | with_reducible exact warnSeat_calm _ _ | with_reducible exact Calm.refl _

theorem entersOn_calm (i : SeatId) (s : State) : Calm s (entersOn i s) := by
  refine (setMic_calm i .on s).trans (modSeat_calm i ?_ _)
  exact fun _ => ⟨rfl, rfl, rfl, rfl, rfl, .inl rfl, .inl rfl, .inl rfl, .inl rfl, .inl rfl⟩

theorem gateReport_calm (r : SectionId) (i : SeatId) (s : State) : Calm s (gateReport r i s) := by
  unfold gateReport
  dsimp only
  repeat' split
  all_goals first
    | with_reducible exact Calm.refl _ | with_reducible exact setMic_calm _ _ _ | with_reducible exact entersOn_calm _ _
    | with_reducible exact (entersOn_calm _ _).trans (warnSeat_calm _ _)

/-! ## The Booking Calendar and the Standby Controller -/

theorem putBooking_calm (k : SlotId) (b : Option Booking) (s : State) : Calm s (putBooking k b s) :=
  (modSlot_calm k b s).trans (raiseEvent_calm _ _ _ _)

theorem setBookingState_calm (k : SlotId) (b : Booking) (x : BookingState) (s : State) : Calm s (setBookingState k b x s) := by
  unfold setBookingState
  split
  · exact Calm.refl s
  · exact putBooking_calm _ _ _

theorem endBooking_calm (k : SlotId) (b : Booking) (s : State) : Calm s (endBooking k b s) := by
  unfold endBooking
  dsimp only
  split
  · exact ((putBooking_calm _ _ s).trans (floorEnd_calm _ _)).trans (restartIdle_calm _)
  · exact putBooking_calm _ _ s

/-- The start of a wake, in STANDBY. -/
theorem startWake_calm {s : State} (h : s.standby.room = .standby) : Calm s (startWake s) := by
  refine Calm.trans ?_ (reconcileAll_calm _)
  exact { Calm.refl s with
    events := .single ⟨_, rfl⟩
    idle := .inr rfl
    waking := fun r => absurd (h.symm.trans r) (by decide)
    awake := fun r => absurd (h.symm.trans r) (by decide) }

theorem wakeForBooking_calm (s : State) : Calm s (wakeForBooking s) := by
  unfold wakeForBooking
  split
  · next h => exact startWake_calm h
  · exact Calm.refl s

theorem evalWaiting_calm (w : Why) (k : SlotId) (b : Booking) (s : State) : Calm s (evalWaiting w k b s) := by
  unfold evalWaiting
  dsimp only
  repeat' split
  all_goals first
    | with_reducible exact (wakeForBooking_calm _).trans (setBookingState_calm _ _ _ _) | with_reducible exact Calm.refl _
    | with_reducible exact setBookingState_calm _ _ _ _

theorem evalSession_calm (w : Why) (k : SlotId) (b : Booking) (s : State) : Calm s (evalSession w k b s) := by
  unfold evalSession
  repeat' split
  all_goals first | with_reducible exact Calm.refl _ | with_reducible exact setBookingState_calm _ _ _ _ | with_reducible exact endBooking_calm _ _ _

theorem evalFirst_calm (w : Why) (k : SlotId) (s : State) : Calm s (evalFirst w k s) := by
  unfold evalFirst
  repeat' split
  all_goals first
    | with_reducible exact Calm.refl _ | with_reducible exact evalWaiting_calm _ _ _ _ | with_reducible exact endBooking_calm _ _ _ | with_reducible exact evalSession_calm _ _ _ _

theorem startSession_calm (k : SlotId) (b : Booking) (s : State) : Calm s (startSession k b s) :=
  (setBookingState_calm _ _ _ s).trans (floorStart_calm _ _ _ _)

theorem evalSecond_calm (w : Why) (k : SlotId) (s : State) : Calm s (evalSecond w k s) := by
  unfold evalSecond
  repeat' split
  all_goals first | with_reducible exact Calm.refl _ | with_reducible exact startSession_calm _ _ _

theorem evalPasses_calm (w : Why) (s : State) : Calm s (evalPasses w s) :=
  (forEach_calm (evalFirst_calm w) _ s).trans (forEach_calm (evalSecond_calm w) _ _)

theorem handEnd_calm (old new : SlotTable) (k : SlotId) (s : State) : Calm s (handEnd old new k s) := by
  unfold handEnd
  repeat' split
  all_goals first | with_reducible exact Calm.refl _ | with_reducible exact resetFollow_calm _ _

theorem handStart_calm (old new : SlotTable) (k : SlotId) (s : State) : Calm s (handStart old new k s) := by
  unfold handStart
  repeat' split
  all_goals first | with_reducible exact Calm.refl _ | with_reducible exact followSessionStart_calm _ _

theorem handOver_calm (old : SlotTable) (s : State) : Calm s (handOver old s) := by
  refine ((forEach_calm (handEnd_calm old s.cal.slots) _ s).trans (forEach_calm (handStart_calm old s.cal.slots) _ _)).trans
    (forEach_calm (fun r t => ?_) _ _)
  split
  · exact reconcileRoom_calm _ _
  · exact Calm.refl t

theorem evaluateCore_calm (w : Why) (old : SlotTable) (s : State) : Calm s (evaluateCore w old s) := by
  have h := (evalPasses_calm w s).trans (handOver_calm old _)
  unfold evaluateCore
  dsimp only
  split
  · exact (h.trans (evalPasses_calm _ _)).trans (handOver_calm _ _)
  · exact h

theorem silence_calm (s : State) : Calm s (silence s) where
  toSteady := by
    refine ⟨?_, ?_, ?_, ?_, ?_, ?_⟩ <;> simp only [silence, modMix_cfg, modSeats_cfg, modMix_trunk, modSeats_trunk, modMix_fresh,
      modSeats_fresh, modMix_pending, modSeats_pending, modMix_mgmt, modSeats_mgmt, modMix_video, modSeats_video] <;>
      exact .refl
  planner := by simp only [silence, modMix_planner, modSeats_planner]
  clips := by simp only [silence, modMix_mix, modSeats_mix]
  computed := by simp only [silence, modMix_mix, modSeats_mix]
  valid := by simp only [silence, modMix_cal, modSeats_cal]
  minute := by simp only [silence, modMix_cal, modSeats_cal]
  second := by simp only [silence, modMix_cal, modSeats_cal]
  frame := by simp only [silence, modMix_cal, modSeats_cal]
  held := by simp only [silence, modMix_cal, modSeats_cal]
  lines := fun l => ⟨s.lines[l].pollPhase, by simp only [silence, modMix_lines, modSeats_lines]⟩
  seats := fun i => by
    simp only [silence, modMix_seats, modSeats_seats, Fin.getElem_fin, Vector.getElem_ofFn]
    exact ⟨rfl, rfl, rfl, rfl, rfl, .inr rfl, .inr rfl, .inr rfl, .inl rfl, .inl rfl⟩
  cameras := by simp only [silence, modMix_video, modSeats_video]
  screens := by simp only [silence, modMix_video, modSeats_video]
  idle := .inl (by simp only [silence, modMix_standby, modSeats_standby])
  waking := fun h => by simp only [silence, modMix_standby, modSeats_standby]; exact ⟨h, trivial⟩
  awake := fun h _ => by simp only [silence, modMix_standby, modSeats_standby]; exact h

/-- Entry into STANDBY, from a room whose idle timer has reached the idle delay. -/
theorem enterStandby_calm {s : State} (h : s.standby.room = .active) (d : idleDelayFrames s ≤ s.standby.idle) :
    Calm s (enterStandby s) := by
  have k : Calm s { modStandby (fun b => { b with idle := 0, wake := none }) (setRoomState .standby s) with
      lines := (modStandby (fun b => { b with idle := 0, wake := none }) (setRoomState .standby s)).lines.map
        fun l => { l with pollPhase := 0 } } :=
    { Calm.refl s with
      events := .single ⟨_, rfl⟩
      lines := fun l => ⟨0, by simp [setRoomState]⟩
      idle := .inr rfl
      waking := fun r => absurd (h.symm.trans r) (by decide)
      awake := fun _ i => absurd i (Nat.not_lt.mpr d) }
  unfold enterStandby
  dsimp only
  revert k
  generalize ({ modStandby (fun b => { b with idle := 0, wake := none }) (setRoomState .standby s) with
      lines := (modStandby (fun b => { b with idle := 0, wake := none }) (setRoomState .standby s)).lines.map
        fun l => { l with pollPhase := 0 } } : State) = u
  intro k
  exact (((k.trans (silence_calm _)).trans (resetFollows_calm _)).trans (reconcileAll_calm _)).trans (evaluateCore_calm _ _ _)

theorem entryConditions_active {s : State} (h : entryConditions s) : s.standby.room = .active := by
  simp only [entryConditions, Bool.and_eq_true, beq_iff_eq] at h
  exact h.1.1.1.1

theorem entryConditions_idle {s : State} (h : entryConditions s) : idleDelayFrames s ≤ s.standby.idle := by
  simp only [entryConditions, Bool.and_eq_true, decide_eq_true_eq] at h
  exact h.1.2

theorem standbyTest_calm (s : State) : Calm s (standbyTest s) := by
  unfold standbyTest
  split
  · next h => exact enterStandby_calm (entryConditions_active h) (entryConditions_idle h)
  · exact Calm.refl s

theorem evaluateFrom_calm (w : Why) (old : SlotTable) (s : State) : Calm s (evaluateFrom w old s) := by
  unfold evaluateFrom
  dsimp only
  split
  · exact (evaluateCore_calm _ _ _).trans (standbyTest_calm _)
  · exact evaluateCore_calm _ _ _

theorem evaluate_calm (w : Why) (s : State) : Calm s (evaluate w s) := evaluateFrom_calm _ _ _

theorem wakeCause_calm (s : State) : Calm s (wakeCause s) := by
  unfold wakeCause
  split
  · next h => exact (startWake_calm h).trans (evaluate_calm _ _)
  · exact Calm.refl s

theorem settle_calm (before : State) (r : SectionId) (s : State) : Calm s (settle before r s) := by
  have h := (autoAdvance_calm r s).trans (updateSpeaker_calm r _)
  unfold settle
  dsimp only
  split
  · exact h.trans (evaluate_calm _ _)
  · exact h

/-- An event at a floor whose change is calm. -/
theorem floorEvent_calm (r : SectionId) {f : State → State} (hf : ∀ s, Calm s (f s)) (s : State) : Calm s (floorEvent r f s) :=
  (hf s).trans (settle_calm _ _ _)

theorem makeAdHoc_calm (k : SlotId) (b : Booking) (s : State) : Calm s (makeAdHoc k b s) :=
  ((putBooking_calm _ _ s).trans (floorStart_calm _ _ _ _)).trans (evaluateFrom_calm _ _ _)

theorem extendBooking_calm (k : SlotId) (b : Booking) (s : State) : Calm s (extendBooking k b s) :=
  (putBooking_calm _ _ s).trans (evaluateFrom_calm _ _ _)

theorem finishBooking_calm (k : SlotId) (b : Booking) (s : State) : Calm s (finishBooking k b s) :=
  (endBooking_calm _ _ s).trans (evaluateFrom_calm _ _ _)

theorem chairExtend_calm (r : SectionId) (i : SeatId) (s : State) : Calm s (chairExtend r i s) := by
  unfold chairExtend
  repeat' split
  all_goals first | with_reducible exact Calm.refl _ | with_reducible exact startDenied_calm _ _ | with_reducible exact extendBooking_calm _ _ _

theorem chairEnd_calm (r : SectionId) (s : State) : Calm s (chairEnd r s) := by
  unfold chairEnd
  repeat' split
  all_goals first | with_reducible exact Calm.refl _ | with_reducible exact finishBooking_calm _ _ _

theorem atMinute_calm (s : State) : Calm s (atMinute s) := (evaluate_calm _ s).trans (standbyTest_calm _)

/-! ## Keys and latches -/

theorem toFloor_calm (i : SeatId) (k : Key) (s : State) : Calm s (toFloor i k s) := floorEvent_calm _ (floorKey_calm _ _ _) s

theorem talkPress_calm (i : SeatId) (s : State) : Calm s (talkPress i s) := by
  unfold talkPress
  split
  · split
    · exact startDenied_calm _ _
    · exact (makeAdHoc_calm _ _ _).trans (toFloor_calm _ _ _)
  · exact toFloor_calm _ _ _

theorem pressAt_calm (x : Route) (i : SeatId) (k : Key) (s : State) : Calm s (pressAt x i k s) := by
  unfold pressAt
  repeat' split
  all_goals first
    | with_reducible exact Calm.refl _ | with_reducible exact sharePress_calm _ _ | with_reducible exact chairExtend_calm _ _ _ | with_reducible exact chairEnd_calm _ _
    | with_reducible exact talkPress_calm _ _ | with_reducible exact toFloor_calm _ _ _

theorem keyPress_calm (i : SeatId) (k : Key) (s : State) : Calm s (keyPress i k s) := by
  unfold keyPress
  dsimp only
  split
  · exact Calm.refl s
  · exact (restartIdle_calm s).trans (pressAt_calm _ _ _ _)

theorem keyRelease_calm (i : SeatId) (k : Key) (s : State) : Calm s (keyRelease i k s) := by
  unfold keyRelease
  split
  · exact (restartIdle_calm s).trans (floorEvent_calm _ (priorityRelease_calm _ _) _)
  · exact Calm.refl s

theorem handleKey_calm (i : SeatId) (e : KeyEvent) (s : State) : Calm s (handleKey i e s) := by
  unfold handleKey
  repeat' split
  all_goals first | with_reducible exact keyPress_calm _ _ _ | with_reducible exact keyRelease_calm _ _ _ | with_reducible exact Calm.refl _

theorem latchStore_calm (i : SeatId) (e : KeyEvent) (s : State) : Calm s (latchStore i e s) := by
  refine modSeat_calm i ?_ s
  exact fun _ => ⟨rfl, rfl, rfl, rfl, rfl, .inl rfl, .inl rfl, .inl rfl, .inl rfl, .inl rfl⟩

theorem emptyLatch_calm (i : SeatId) (s : State) : Calm s (emptyLatch i s) := by
  refine modSeat_calm i ?_ s
  exact fun _ => ⟨rfl, rfl, rfl, rfl, rfl, .inl rfl, .inl rfl, .inl rfl, .inl rfl, .inl rfl⟩

theorem keyArrives_calm (i : SeatId) (e : KeyEvent) (s : State) : Calm s (keyArrives i e s) := by
  unfold keyArrives
  repeat' split
  all_goals first
    | with_reducible exact handleKey_calm _ _ _ | with_reducible exact latchStore_calm _ _ _ | with_reducible exact (latchStore_calm _ _ _).trans (wakeCause_calm _)
    | with_reducible exact Calm.refl _

theorem raiseOverrun_calm (i : SeatId) (b : Bool) (s : State) : Calm s (raiseOverrun i b s) := by
  unfold raiseOverrun
  split
  · exact raiseEvent_calm _ _ _ _
  · exact Calm.refl s

theorem examineLatch_calm (m : LatchMode) (i : SeatId) (s : State) : Calm s (examineLatch m i s) := by
  unfold examineLatch
  dsimp only
  repeat' split
  all_goals first
    | with_reducible exact Calm.refl _ | with_reducible exact wakeCause_calm _ | with_reducible exact (emptyLatch_calm _ _).trans (raiseOverrun_calm _ _ _)
    | with_reducible exact ((emptyLatch_calm _ _).trans (handleKey_calm _ _ _)).trans (raiseOverrun_calm _ _ _)

theorem examineLatches_calm (is : List SeatId) (m : LatchMode) (s : State) : Calm s (examineLatches is m s) :=
  forEach_calm (examineLatch_calm m) is s

end Sys2Proof.Machine
end

