-- ==== Sys2Proof/Laws/Queue.lean ====
section
/-! SUPPORT. What the event queue (R202) and the media link (R186, R187) can do, said once for each operation. -/

namespace Sys2Proof.Machine

open Sys2Proof

/-! ## The event queue -/

/-- Raising an event changes the event queue and the RESYNC mark, and nothing else of the Management Unit. -/
theorem queueEvent_rest (e : Event) (m : Mgmt) :
    queueEvent e m = { m with events := (queueEvent e m).events, resync := (queueEvent e m).resync } := by
  unfold queueEvent
  split
  · rfl
  · split <;> rfl

/-- The three outcomes of R202: an update in place, a new entry at the tail, or a drop with the RESYNC mark set. -/
theorem queueEvent_cases (e : Event) (m : Mgmt) :
    (queueEvent e m = { m with events := m.events.map fun x => if x.kind == e.kind && x.subject == e.subject then e else x } ∧
        ∃ x ∈ m.events, x.kind = e.kind ∧ x.subject = e.subject) ∨
      (queueEvent e m = { m with events := m.events ++ [e] } ∧ m.events.length < 48 ∧
        ∀ x ∈ m.events, ¬ (x.kind = e.kind ∧ x.subject = e.subject)) ∨
      (queueEvent e m = { m with resync := true } ∧ 48 ≤ m.events.length ∧
        ∀ x ∈ m.events, ¬ (x.kind = e.kind ∧ x.subject = e.subject)) := by
  unfold queueEvent
  split
  · rename_i h
    exact .inl ⟨rfl, by simpa using h⟩
  · rename_i h
    have fresh : ∀ x ∈ m.events, ¬ (x.kind = e.kind ∧ x.subject = e.subject) := by simpa using h
    split
    · rename_i k
      exact .inr (.inl ⟨rfl, k, fresh⟩)
    · rename_i k
      exact .inr (.inr ⟨rfl, Nat.le_of_not_lt k, fresh⟩)

/-- An event that has been raised stands in the queue, or the RESYNC mark is set. -/
theorem queueEvent_reported (e : Event) (m : Mgmt) : e ∈ (queueEvent e m).events ∨ (queueEvent e m).resync = true := by
  rcases queueEvent_cases e m with ⟨h, x, hx, hk, hs⟩ | ⟨h, -, -⟩ | ⟨h, -, -⟩
  · rw [h]
    exact .inl (List.mem_map.mpr ⟨x, hx, by simp [hk, hs]⟩)
  · rw [h]
    exact .inl (by simp)
  · rw [h]
    exact .inr rfl

/-- A RESYNC mark that is set stays set when an event is raised. -/
theorem queueEvent_resync {e : Event} {m : Mgmt} (h : m.resync = true) : (queueEvent e m).resync = true := by
  rcases queueEvent_cases e m with ⟨k, -⟩ | ⟨k, -⟩ | ⟨k, -⟩ <;> rw [k]
  · exact h
  · exact h

/-! ## The media link -/

/-- What `takeSendable` finds has nothing in flight, and comes from the list. -/
theorem takeSendable_some {v : Video} {ds : List Directive} {d : Directive} {rest : List Directive}
    (h : takeSendable v ds = some (d, rest)) : d ∈ ds ∧ flightFor v (targetOfDirective d) = none ∧ rest.Sublist ds := by
  induction ds generalizing rest with
  | nil => simp [takeSendable] at h
  | cons x xs ih =>
    unfold takeSendable at h
    split at h
    · rename_i hx
      cases h
      exact ⟨List.mem_cons_self, by simpa using hx, List.sublist_cons_self _ _⟩
    · obtain ⟨⟨y, r⟩, hy, he⟩ := Option.map_eq_some_iff.mp h
      cases he
      obtain ⟨mem, free, sub⟩ := ih hy
      exact ⟨List.mem_cons_of_mem _ mem, free, sub.cons_cons x⟩

/-- One test of the media queue: nothing is sent, or one directive of the queue whose target has nothing in flight enters the
in-flight list at the end with a reply timer of 0, and its message is the last transmitted. -/
theorem sendOne_cases (v : Video) :
    sendOne v = v ∨ ∃ d rest, takeSendable v v.queue = some (d, rest) ∧ v.inFlight.length < 4 ∧
      sendOne v = { v with
        queue := rest
        inFlight := v.inFlight ++ [⟨d, 0⟩]
        transmitted := v.transmitted ++ [directiveMessage d] } := by
  unfold sendOne
  split
  · rename_i h
    split
    · exact .inl rfl
    · rename_i d rest hd
      exact .inr ⟨d, rest, hd, h, rfl⟩
  · exact .inl rfl

/-- The three outcomes of R186 for a new directive. -/
theorem joinQueue_cases (d : Directive) (v : Video) :
    joinQueue d v = v ∨
      joinQueue d v = { v with queue := v.queue.map fun x => if targetOfDirective x == targetOfDirective d then d else x } ∨
      (joinQueue d v = { v with queue := v.queue ++ [d] } ∧ ∀ x ∈ v.queue, targetOfDirective x ≠ targetOfDirective d) := by
  unfold joinQueue
  split
  · exact .inl rfl
  · split
    · exact .inr (.inl rfl)
    · rename_i h
      exact .inr (.inr ⟨rfl, by simpa using h⟩)

end Sys2Proof.Machine
end

