-- ==== Sys2Proof/Tests/Slice0.lean ====
section
/-! SUPPORT. Tests. Three parts: terms that WellFormed refuses; what the manual's own layouts and worked examples give; and, for
each statement with hypotheses, a witness: a state and operands that meet them together, one for each clause, at a boundary of its
range where it has one. In a witness `u` of a statement is `afterApply s`, written out. -/

namespace Sys2Proof.Tests

open Sys2Proof Sys2Proof.Machine

-- One theorem at a time: each holds a thread while the kernel evaluates it.
set_option Elab.async false

/-! ## Ill-formed terms -/

theorem test_ill_formed_bad_request : (Instr.badRequest 5 0x01).wellFormed = false := by decide

theorem test_well_formed_bad_request : (Instr.badRequest 5 0x18).wellFormed = true := by decide

/-- A DONE of camera 3 is no message to discard. -/
theorem test_ill_formed_discard : (Instr.mediaMessageDiscard #v[0x81, 3, 0, 0, 0, 0, 0, 0x7C]).wellFormed = false := by decide

/-- A RECALL received is an undefined reply kind (11.4). -/
theorem test_well_formed_discard : (Instr.mediaMessageDiscard #v[0x01, 3, 0, 0, 0, 0, 0, 0xFC]).wellFormed = true := by decide

/-! ## Layouts (chapter 11), written out octet by octet -/

theorem test_no_table_word : decodeTableWord 16 0 = none := rfl

/-- WRITE, tag 09h, table SEAT, index 35, field 2 (volume), value 65,535. -/
theorem test_decode_write :
    decodeRequest [0x10, 0x02, 0x09, 0x00, 0x23, 0x02, 0xFF, 0xFF, 0, 0, 0, 0, 0, 0, 0, 0] = .write 9 0 35 2 65535 := by decide

/-- BOOK CHANGE of slot 2: start 600, duration 90, sections A to B, profile 1, WEEKLY, title 40. -/
theorem test_decode_book_change :
    decodeRequest [0x10, 0x06, 0x07, 0x02, 0x02, 0x58, 0x00, 0x5A, 0x00, 0x01, 0x01, 0x01, 0x28, 0, 0, 0] =
      .bookChange 7 2 ⟨600, 90, 0, 1, 1, 1, 40⟩ := by decide

theorem test_decode_code_above_last : decodeRequest [0x10, 0x18, 0x01] = .badRequest 1 0x18 := by decide

/-- A cell of kind REPLY is ignored (R209). -/
theorem test_decode_other_kind : decodeCell [0x20, 0x01, 0x01] = none := by decide

theorem test_decode_key : decodeSeatReply [0x02, 0x05, 0x01, 0, 0, 0, 0, 0xF8] = some (.key ⟨.priority, .press⟩) := by decide

/-- Eight octets of 00h: no reply (R208). -/
theorem test_decode_silence : decodeSeatReply [0, 0, 0, 0, 0, 0, 0, 0] = none := by decide

theorem test_decode_done_screen_7 : decodeMediaReply #v[0x81, 0x0F, 0, 0, 0, 0, 0, 0x70] = some (.done (.screen 7)) := by decide

theorem test_message_show_far_end :
    directiveMessage (.display 2 (.farEnd 1)) = #v[0x02, 0x0A, 0x03, 0x01, 0, 0, 0, 0xF0] := by decide +kernel

theorem test_power_on_messages :
    powerOnMessage 3 = directiveMessage (.power 3 true) ∧ identifyCell0 = seatCell State.reset 0 := by decide +kernel

/-! ## One frame of room A (5.13) -/

def micSeat (mic : MicState) (gate env : Nat) : Seat :=
  { Seat.powerOn with
    present := true
    mic := mic
    gate := gate
    env := env }

def heard (role : Role) (gain volume : Nat) : SeatConfig :=
  { SeatConfig.default with
    role := role
    gain := gain
    volume := volume }

def runningLine (mic : Vector Sample 16) : LineUnit :=
  { LineUnit.powerOn with
    state := .running
    turnNow := false
    mic := mic }

/-- The state of 5.13: all dividers CLOSED, section A alone in session. -/
def roomA : State :=
  { State.reset with
    lines := State.reset.lines.set 0
      (runningLine #v[0, 0, 0, 0, 0, 12000, 20000, 0, 0, 18000, 0, 0, 300, 0, 0, 0])
    seats := (((State.reset.seats.set 5 (micSeat .opening 128 14000)).set 6 (micSeat .on 256 20000)).set 9
      (micSeat .on 256 20000)).set 12 (micSeat .off 0 0)
    floors := State.reset.floors.set 0 ⟨.normal, some 0, some 0, [], [⟨6, 1, false⟩, ⟨9, 2, false⟩, ⟨5, 3, false⟩], [], some 5⟩
    planner := { Planner.powerOn with active := ⟨.closed, .closed, .closed⟩ }
    cfg := { Tables.powerOn with
      seats := (((Tables.powerOn.seats.set 5 (heard .delegate 5120 2048)).set 6 (heard .delegate 4096 3072)).set 9
        (heard .delegate 4096 2048)).set 12 (heard .listener 4096 4096)
      programs := Tables.powerOn.programs.set 0 ⟨.sec 0, 4096⟩ }
    trunk := { Trunk.powerOn with
      link := .up
      programs := #v[9000, 0, 0, 0] } }

theorem test_5_13_loudspeakers :
    (mixFrame roomA).seats[5].loud = 3868 ∧ (mixFrame roomA).seats[6].loud = 4448 ∧ (mixFrame roomA).seats[9].loud = 3110 ∧
      (mixFrame roomA).seats[12].loud = 32767 := by decide +kernel

theorem test_5_13_feeds_and_clips :
    (mixFrame roomA).mix.feeds = #v[32767, 0, 0, 0, 26271, 0, 0, 0] ∧
      (mixFrame roomA).mix.clips = #v[1, 0, 0, 0, 0, 0, 0, 0, 1, 0, 0, 0] := by decide +kernel

theorem test_5_13_gates_and_envelopes :
    (mixFrame roomA).seats[5].gate = 129 ∧ (mixFrame roomA).seats[5].env = 15000 ∧ (mixFrame roomA).seats[9].env = 19997 := by
  decide +kernel

/-! ## A meeting

Every line RUNNING, one room; minute 100 of an IN_SESSION booking of sections A to D in slot 0, under profile 0 in OPEN mode with
max open 2; seat 0 a chair, seat 1 ON, seat 2 WAITING and seat 3 OFF. -/

def openProfile : Profile :=
  { Profile.default with
    mode := .openMode
    maxOpen := 2
    queueCap := 2
    autoAdvance := false }

def meetingBooking : Booking := ⟨.inSession, 60, 120, 0, 3, 0, .once, .scheduled, 7, 0⟩

def meeting : State :=
  { State.reset with
    lines := Vector.replicate 4 (runningLine (Vector.replicate 16 0))
    seats := (((State.reset.seats.set 0 { micSeat .off 0 0 with kind := .chairUnit }).set 1 (micSeat .on 256 0)).set 2
      (micSeat .waiting 0 0)).set 3 (micSeat .off 0 0)
    floors := State.reset.floors.set 0 ⟨.normal, some 0, some 0, [2], [⟨1, 1, false⟩], [], some 1⟩
    admissions := 1
    cal := { Calendar.powerOn with
      valid := true
      minute := 100
      slots := Calendar.powerOn.slots.set 0 (some meetingBooking) }
    cfg := { Tables.powerOn with
      seats := Tables.powerOn.seats.set 0 { SeatConfig.default with role := .chair }
      profiles := Tables.powerOn.profiles.set 0 openProfile }
    pending := [.quiet 1] }

/-- The meeting under another profile 0. -/
def under (p : Profile) : State := { meeting with cfg := { meeting.cfg with profiles := meeting.cfg.profiles.set 0 p } }

/-- The meeting in another room state. -/
def inRoomState (x : Standby) : State := modStandby (fun _ => x) meeting

/-- The meeting with a line in another state. -/
def lineIn (x : LineState) : State := modLine 0 (fun u => { u with state := x }) meeting

/-- The meeting with the link UP and a miss count. -/
def linkUpWith (n : Nat) : State := modTrunk (fun t => { t with link := .up, miss := n, upFromStart := true }) meeting

/-- The meeting with the link DOWN and an up count. -/
def linkDownWith (n : Nat) : State := modTrunk (fun t => { t with upCount := n }) meeting

/-- The meeting with a booking in slot 1. -/
def alsoBooked (b : Booking) : State := modSlot 1 (some b) meeting

/-- The meeting with a WRITE of seat 3's gain posted. -/
def posting : State := modMgmt (fun m => { m with posted := [⟨0, 3, 1, 8191⟩], applyTimer := some 31 }) meeting

/-- The meeting with a follow record of room A. -/
def following (f : Follow) : State := modFollow 0 (fun _ => f) meeting

/-- The room of the meeting with nobody in it: all dividers OPEN, nothing booked, every seat OFF, no session. -/
def quietRoom : State :=
  { meeting with
    seats := State.reset.seats
    floors := State.reset.floors
    cal := { meeting.cal with slots := Calendar.powerOn.slots } }

/-- The meeting in a drain towards a plan with AB CLOSED. -/
def draining : State :=
  { meeting with
    floors := meeting.floors.set 0 ⟨.frozen, some 0, some 0, [], [], [], none⟩
    planner := ⟨.draining, .allOpen, some ⟨.closed, .opened, .opened⟩, Vector.replicate 4 true, none⟩
    cal := { meeting.cal with held := Vector.replicate 4 true }
    seats := Vector.ofFn fun i : SeatId => { meeting.seats[i] with latchEnable := true, mic := .off, gate := 0 } }

/-! ### Tests of one command each -/

/-- The state that an outcome carries. -/
def after (o : Outcome) : State :=
  match o with
  | .next t => t
  | _ => State.reset

/-- 10.5, R210: a volume of 65,535 is posted as 4,096. -/
theorem test_write_volume :
    (after (exec (.write 9 0 35 2 65535) meeting)).mgmt.posted = [⟨0, 35, 2, 4096⟩] ∧
      (after (exec (.write 9 0 35 2 65535) meeting)).mgmt.reply = some ⟨9, .clamped, Vector.replicate 14 0⟩ := by decide +kernel

/-- R199: a WRITE to a runtime field is READ_ONLY. -/
theorem test_write_runtime :
    (after (exec (.write 1 0 0 9 0) meeting)).mgmt.reply = some ⟨1, .readOnly, Vector.replicate 14 0⟩ := by decide +kernel

/-- R126, 11.3: the last second of the week, minute 10,079 (275Fh), with 128 for VALID. -/
theorem test_clock_set :
    (after (exec (.clockSet 1 10079 59) meeting)).mgmt.reply =
      some ⟨1, .ok, #v[0x27, 0x5F, 0xBB, 0, 0, 0, 0, 0, 0, 0, 0, 0, 0, 0]⟩ := by decide +kernel

/-- R203: a seat above 63 is BAD_INDEX. -/
theorem test_seat_index : (after (exec (.seatOpen 1 64) meeting)).mgmt.reply = some ⟨1, .badIndex, Vector.replicate 14 0⟩ := by
  decide +kernel

/-- R55: a WAITING seat's TALK PRESS withdraws it. -/
theorem test_talk_withdraws :
    (after (exec (.key 2 .talk .press) meeting)).seats[2].mic = .off ∧
      (after (exec (.key 2 .talk .press) meeting)).floors[0].queue = [] := by decide +kernel

/-- R57: NEXT admits the head of the queue. -/
theorem test_next_admits : (after (exec (.key 0 .next .press) meeting)).seats[2].mic = .opening := by decide +kernel

/-- R65 and R66: PRIORITY suspends, and its release resumes. -/
theorem test_priority_and_back :
    (after (exec (.key 0 .priority .press) meeting)).seats[1].mic = .suspended ∧
      (after (exec (.key 0 .priority .release) (after (exec (.key 0 .priority .press) meeting)))).seats[1].mic = .opening := by
  decide +kernel

/-- R110: a divider state of 2 is BAD_VALUE. -/
theorem test_divider_report :
    ((after (exec (.dividerReport 1 2 0 0) meeting)).mgmt.reply.map (·.status)) = some .badValue ∧
      (after (exec (.dividerReport 1 1 0 0) meeting)).planner.state = .draining := by decide +kernel

/-- R147: the meeting is locked. -/
theorem test_book_cancel : (after (exec (.bookCancel 1 0) meeting)).mgmt.reply.map (·.status) = some .locked := by decide +kernel

/-- R149: the end of a ONCE session leaves its slot EMPTY, in the reply (FFh) as in the table. -/
theorem test_book_end :
    (after (exec (.bookEnd 1 0) meeting)).cal.slots[0] = none ∧
      (after (exec (.bookEnd 1 0) meeting)).mgmt.reply =
        some ⟨1, .ok, #v[0, 0xFF, 0, 100, 128, 0, 0, 0, 0, 0, 0, 0, 0, 0]⟩ := by decide +kernel

/-- R145: no time, no booking. -/
theorem test_book_add_no_time :
    (after (exec (.bookAdd 1 ⟨600, 60, 0, 0, 0, 0, 0⟩) State.reset)).mgmt.reply.map (·.status) = some .noTime := by decide +kernel

/-- R195: the outbound cell of the first superframe after the link came UP carries the oldest event and the RESYNC mark: LINE,
line A, ENUMERATING. -/
theorem test_superframe_cell :
    (after (exec .superframe (modTrunk (fun t => { t with link := .up }) State.reset))).mgmt.outCell =
      #v[0x31, 6, 0, 1, 0, 0, 0, 0, 0, 0, 0, 0, 0, 0, 0, 0] := by decide +kernel

/-- R191: the outbound frame of index 0 from power-on is silent and carries the EMPTY cell; its check is 0. -/
theorem test_frame_period :
    (after (exec (.freeRunFramePeriod none) State.reset)).trunk.sent = some ⟨0, Vector.replicate 8 0, 0, 0, 0⟩ := by decide +kernel

/-- R188, R187: a DONE frees a place, and the next POWER ON is sent. -/
theorem test_done_sends_next :
    (after (exec (.done (.screen 0)) State.reset)).video.transmitted.getLast? = some #v[3, 12, 1, 0, 0, 0, 0, 0xF0] := by
  decide +kernel

/-- R160: a key of a sleeping room does not reach the floor; a TALK PRESS wakes it (R164). -/
theorem test_talk_wakes :
    (after (exec (.key 3 .talk .press) (inRoomState ⟨.standby, 0, none⟩))).standby.room = .waking ∧
      (after (exec (.key 3 .cancel .press) (inRoomState ⟨.standby, 0, none⟩))).standby.room = .standby := by decide +kernel

/-- Line A one invalid frame before a fault, in the last frame of seat 1's turn. -/
def faulting : State :=
  modTrunk (fun t => { t with frameIndex := 8 })
    (modLine 0 (fun u => { u with monitor := 63, turnNow := true, turn := 1 })
      (modSeat 1 (fun x => { x with missCount := 2 }) meeting))

/-- R15: the turn among the 64 frames is judged before the fault, so seat 1's third missed turn loses it before the others. -/
theorem test_fault_after_its_last_turn :
    (((after (exec (.lineFrameReturn 0 none) faulting)).mgmt.events.filter fun e => e.kind == .presence).map (·.subject)) =
      [1, 0, 2, 3] := by decide +kernel

/-- R195: a cell of a superframe in which a frame period had no valid inbound frame is discarded without a reply. -/
theorem test_inbound_cell_short :
    (after (exec (.inboundCell #v[0x10, 0x15, 1, 0, 0, 0, 0, 0, 0, 0, 0, 0, 0, 0, 0, 0])
      (modTrunk (fun t => { t with frameIndex := 1 }) (linkUpWith 0)))).mgmt.reply = none := by decide +kernel

/-- The meeting with this write posted. -/
def withPosted (w : Posted) (s : State) : State := modMgmt (fun m => { m with posted := [w], applyTimer := some 31 }) s

/-- Seat 2, a holder that was made DELEGATE and waits, is to be LISTENER. -/
def demoted : State :=
  withPosted ⟨0, 2, 0, 2⟩ (modFloor 0 (fun f => { f with state := .priority, holders := [2] }) meeting)

/-- R66, R71: a holder made DELEGATE, WAITING, and then made LISTENER, leaves queue and holders; the floor returns to NORMAL. -/
theorem test_listener_is_no_holder :
    (after (exec (.apply 1) demoted)).floors[0].holders = [] ∧
      (after (exec (.apply 1) demoted)).floors[0].state = .normal := by decide +kernel

/-- Seat 1, warned under a speak limit that a posted write ends. -/
def warned (mic : MicState) : State :=
  withPosted ⟨1, 0, 5, 0⟩ (modSeat 1 (fun x => { x with mic := mic, gate := 200, limitWarning := true, speakSecs := 280 })
    (under { openProfile with speakLimit := 300, limitWarning := 30 }))

/-- R40: an apply point that ends the speak limit takes the warning from a seat in ON, and not from one in OPENING. -/
theorem test_warning_at_apply :
    (after (exec (.apply 1) (warned .on))).seats[1].limitWarning = false ∧
      (after (exec (.apply 1) (warned .opening))).seats[1].limitWarning = true := by decide +kernel

/-- Seat 1 SUSPENDED from OPENING under a warning point of 0, with a change of NOM posted. -/
def suspendedUnheard (beenOn : Bool) (w : Posted) : State :=
  withPosted w (modFloor 0 (fun f => { f with state := .priority, holders := [9] })
    (modSeat 1 (fun x => { x with mic := .suspended, beenOn := beenOn })
      (under { openProfile with speakLimit := 30, limitWarning := 30 })))

/-- R62, R40: a change of NOM warns nobody; a changed limit warns a seat that has been ON, and none that has not, at warning point 0. -/
theorem test_warning_point_zero :
    (after (exec (.apply 1) (suspendedUnheard true ⟨1, 0, 10, 0⟩))).seats[1].limitWarning = false ∧
      (after (exec (.apply 1) (suspendedUnheard true ⟨1, 0, 5, 20⟩))).seats[1].limitWarning = true ∧
      (after (exec (.apply 1) (suspendedUnheard false ⟨1, 0, 5, 20⟩))).seats[1].limitWarning = false := by decide +kernel

/-- The chair SUSPENDED, with the admission count at its end. -/
def lastCount : State :=
  let f (x : Floor) : Floor :=
    { x with state := .priority, holders := [9], openSet := [⟨0, 5, false⟩, ⟨1, 7, false⟩] }
  { modSeat 0 (fun x => { x with mic := .suspended }) (modFloor 0 f meeting) with admissions := 65535 }

/-- R46: a chair readmitted from SUSPENDED at count 65,535: every open set is renumbered, its own entry too, before the admission. -/
theorem test_readmission_at_the_last_count :
    (after (exec (.key 0 .talk .press) lastCount)).floors[0].openSet =
      [⟨1, 2, false⟩, ⟨0, 3, false⟩] := by decide +kernel

/-! ## Witnesses: the invariants -/

theorem meeting_queues : QueuesOk posting := by constructor <;> decide +kernel

theorem meeting_profiles : ∀ n : ProfileId, ProfileOk posting.cfg.profiles[n] := by
  intro n; constructor <;> revert n <;> decide +kernel

theorem meeting_config : ConfigOk posting := by
  refine ⟨?_, meeting_profiles, ?_, ?_, ?_, ?_⟩
  · decide +kernel
  · constructor <;> decide +kernel
  · decide +kernel
  · decide +kernel
  · intro w hw
    have h : w = ⟨0, 3, 1, 8191⟩ := List.mem_singleton.mp hw
    subst h
    show 0 ≤ 8191 ∧ 8191 ≤ 8191 ∧ (0 = 1 ∧ 1 = 16 → 8191 % 15 = 0)
    decide

theorem meeting_seats : ∀ i : SeatId, SeatOk posting.seats[i] := by
  intro i; constructor <;> revert i <;> decide +kernel

theorem meeting_bookings : ∀ k : SlotId, ∀ b ∈ posting.cal.slots[k], BookingOk b := by
  have h : ∀ k : SlotId, ∀ b ∈ posting.cal.slots[k], b = meetingBooking := by decide +kernel
  intro k b hb
  rw [h k b hb]
  constructor <;> decide

theorem meeting_counts : CountsOk posting := by
  constructor
  case seats => exact meeting_seats
  case bookings => exact meeting_bookings
  all_goals decide +kernel

theorem meeting_lines : LinesOk meeting := by
  intro l; constructor <;> revert l <;> decide +kernel

theorem meeting_floors : FloorOk meeting := by
  constructor <;> (try unfold inSession) <;> (try unfold risingTimes) <;> decide +kernel

theorem meeting_planner : PlannerOk meeting := by constructor <;> decide +kernel

theorem meeting_standby : StandbyOk meeting := by constructor <;> decide +kernel

theorem meeting_config_unposted : ConfigOk meeting :=
  ⟨meeting_config.seats, meeting_config.profiles, meeting_config.room, meeting_config.sections, meeting_config.programs,
    fun _ h => absurd h (List.not_mem_nil)⟩

theorem meeting_counts_unposted : CountsOk meeting := by
  constructor
  case seats => exact meeting_seats
  case bookings => exact meeting_bookings
  all_goals decide +kernel

theorem meeting_sessions : SessionsOk meeting := by
  constructor
  · decide +kernel
  · intro r h
    have hr : r = 0 := by revert r; unfold inSession; decide +kernel
    subst hr
    exact ⟨0, rfl, meetingBooking, rfl, rfl, rfl, rfl⟩

theorem meeting_table : TableOk meeting := by constructor <;> decide +kernel

theorem meeting_part : PartOk meeting :=
  ⟨meeting_config_unposted, meeting_counts_unposted, meeting_lines, meeting_floors, meeting_planner, meeting_standby,
    meeting_sessions, meeting_table⟩

theorem witness_StepRunsTheFrontCommand : meeting.pending = .quiet 1 :: [] ∧ State.reset.pending = [] := ⟨rfl, rfl⟩

theorem witness_StepKeepsTheQueues : QueuesOk posting ∧ ∃ t, step posting = .next t := ⟨meeting_queues, _, rfl⟩

theorem witness_StepKeepsTheConfiguration : ConfigOk posting ∧ ∃ t, step posting = .next t := ⟨meeting_config, _, rfl⟩

theorem witness_StepKeepsTheCounts : ConfigOk posting ∧ CountsOk posting ∧ ∃ t, step posting = .next t :=
  ⟨meeting_config, meeting_counts, _, rfl⟩

theorem witness_StepKeepsTheLines : LinesOk meeting ∧ ∃ t, step meeting = .next t := ⟨meeting_lines, _, rfl⟩

theorem witness_StepKeepsThePart : PartOk meeting ∧ ∃ t, step meeting = .next t := ⟨meeting_part, _, rfl⟩

theorem witness_FloorCommandsKeepTheFloors :
    floorCommand (.key 3 .talk .press) = true ∧ FloorsReady meeting ∧ ∃ t, exec (.key 3 .talk .press) meeting = .next t := by
  refine ⟨rfl, ⟨meeting_floors, meeting_lines, meeting_standby, meeting_planner, meeting_config_unposted, rfl, rfl, ?_, ?_⟩, _, rfl⟩
  · unfold inSession; decide +kernel
  · decide +kernel

theorem witness_WhatCommandsLeave :
    endsSuperframe (.quiet 1) = false ∧ carriesRequest (.quiet 1) = false ∧ (∃ t, exec (.quiet 1) meeting = .next t) ∧
      movesLink (.quiet 1) = false ∧ movesClips (.quiet 1) = false ∧ movesTime (.quiet 1) = false ∧
      movesLines (.quiet 1) = false ∧ movesPlan (.quiet 1) = false ∧ movesPresence (.quiet 1) = false ∧
      ∀ i k, Instr.quiet 1 ≠ .hello i k :=
  ⟨rfl, rfl, ⟨_, rfl⟩, rfl, rfl, rfl, rfl, rfl, rfl, fun _ _ h => by cases h⟩

theorem witness_WhatRoomCommandsLeave :
    roomCommand (.key 2 .talk .press) = true ∧ (∃ t, exec (.key 2 .talk .press) meeting = .next t) ∧
      (Instr.key 2 .talk .press).wellFormed = true ∧
      ∀ x, Instr.key 2 .talk .press ≠ .done x ∧ Instr.key 2 .talk .press ≠ .replyTimeout x :=
  ⟨rfl, ⟨_, rfl⟩, rfl, fun _ => ⟨fun h => by (cases h), fun h => by (cases h)⟩⟩

/-! ## Witnesses: reset, configuration and requests

ClearClips, and most of ReadRequests and SoftResetValues, ask only for `afterApply s = u`. -/

theorem witness_ClearClips : afterApply meeting = markTaken meeting := rfl

/-- The booking of slot 1 in a session state, over at minute 90 or going on to minute 110. -/
def sessionBooking (x : BookingState) (length : Nat) : Booking := ⟨x, 60, length, 0, 3, 0, .weekly, .scheduled, 9, 0⟩

/-- No session is in room B; a GRACE booking, a session whose range is a room, and one whose range is not. -/
theorem witness_SoftResetValues :
    1 ≤ (afterApply meeting).cfg.room.idleDelay ∧
      (∀ k : SlotId, ∀ b ∈ (afterApply meeting).cal.slots[k], isSession b.state = true → b.first ≠ 1) ∧
      (sessionBooking .grace 30).state = .grace ∧
      (afterApply (alsoBooked (sessionBooking .grace 30))).cal.slots[(1 : SlotId)] = some (sessionBooking .grace 30) ∧
      ((afterApply meeting).cal.slots[(0 : SlotId)] = some meetingBooking ∧ meetingBooking.state = .inSession ∧
        (intervalOf meetingBooking).has (afterApply meeting).cal.minute = true ∧
        rangeIsRoom (afterApply meeting).planner.active meetingBooking = true) ∧
      ((afterApply (alsoBooked { sessionBooking .ending 120 with last := 1 })).cal.slots[(1 : SlotId)] =
          some { sessionBooking .ending 120 with last := 1 } ∧
        rangeIsRoom (afterApply meeting).planner.active { sessionBooking .ending 120 with last := 1 } = false) := by
  decide +kernel

/-- Tables 9 and 8, seat 64, a field past the last of SEAT and PROFILE, and the empty slot 1; a booking with an end. -/
theorem witness_ReadRequests :
    tableEntries (9 : Octet).toNat = none ∧ tableEntries (0 : Octet).toNat = some 64 ∧ 64 ≤ (64 : Octet).toNat ∧
      fieldOf 0 16 = none ∧ fieldOf 1 17 = none ∧ tableEntries 7 = some 48 ∧ (1 : Octet).toNat = (1 : SlotId).val ∧
      (fieldOf 7 0).isSome = true ∧ (afterApply meeting).cal.slots[(1 : SlotId)] = none ∧
      (afterApply meeting).cal.slots[(0 : SlotId)] = some meetingBooking ∧ meetingBooking.duration ≠ 0 := by decide +kernel

theorem witness_ConfigurationChangesAtApplyPoints :
    (endsSuperframe (.apply 1) = false ∧ ∃ t, exec (.apply 1) posting = .next t) ∧ posting.mgmt.posted ≠ [] ∧
      posting.mgmt.applyTimer.isSome = true :=
  ⟨⟨rfl, _, rfl⟩, by decide, rfl⟩

/-- The meeting with two delegates, seats 1 and 3, and two chairs, seats 0 and 5, ON: at a NORMAL floor, or at one in PRIORITY whose
holder is seat 0. Seat 2 waits, and seat 6 is a LISTENER. -/
def panel (priority : Bool) : State :=
  let spoken (mic : MicState) : Seat :=
    { micSeat mic 256 0 with speakSecs := 290, silence := 20, beenOn := true }
  let other := if priority = true then MicState.suspended else .on
  { meeting with
    seats := (((meeting.seats.set 0 { spoken .on with kind := .chairUnit }).set 1 (spoken other)).set 3 (spoken other)).set 5
      (spoken .on)
    floors := meeting.floors.set 0 ⟨if priority = true then .priority else .normal, some 0, some 0, [2],
      [⟨1, 1, false⟩, ⟨3, 2, false⟩, ⟨0, 3, false⟩, ⟨5, 4, false⟩], if priority = true then [0] else [],
      if priority = true then some 0 else some 5⟩
    admissions := 4
    cfg := { meeting.cfg with
      seats := (meeting.cfg.seats.set 5 { SeatConfig.default with role := .chair }).set 6
        { SeatConfig.default with role := .listener } } }

theorem panel_config (b : Bool) : ConfigOk (panel b) := by
  refine ⟨?_, meeting_config.profiles, meeting_config.room, meeting_config.sections, meeting_config.programs,
    fun _ h => absurd h (List.not_mem_nil)⟩
  cases b <;> decide +kernel

theorem panel_seats (b : Bool) : ∀ i : SeatId, SeatOk (panel b).seats[i] := by
  intro i; constructor <;> revert i <;> cases b <;> decide +kernel

theorem panel_counts (b : Bool) : CountsOk (panel b) := by
  constructor
  case seats => exact panel_seats b
  case bookings => exact meeting_bookings
  all_goals cases b <;> decide +kernel

theorem panel_lines (b : Bool) : LinesOk (panel b) := by
  intro l; constructor <;> revert l <;> cases b <;> decide +kernel

theorem panel_floors (b : Bool) : FloorOk (panel b) := by
  constructor <;> (try unfold inSession) <;> (try unfold risingTimes) <;> cases b <;> decide +kernel

theorem panel_sessions (b : Bool) : SessionsOk (panel b) := by
  constructor
  · cases b <;> decide +kernel
  · intro r h
    have hr : r = 0 := by revert r; unfold inSession; cases b <;> decide +kernel
    subst hr
    exact ⟨0, rfl, meetingBooking, rfl, rfl, rfl, rfl⟩

theorem panel_part (b : Bool) : PartOk (panel b) where
  config := panel_config b
  counts := panel_counts b
  lines := panel_lines b
  floors := panel_floors b
  planner := by constructor <;> cases b <;> decide +kernel
  standby := by constructor <;> cases b <;> decide +kernel
  sessions := panel_sessions b
  table := by constructor <;> cases b <;> decide +kernel

/-- A state with these writes posted. -/
def adjust (ws : List Posted) (s : State) : State := modMgmt (fun m => { m with posted := ws, applyTimer := some 31 }) s

/-- Posted writes leave the state a state of the part. -/
theorem adjust_part (ws : List Posted) (s : State) (h : PartOk s) (hw : ∀ w ∈ ws, PostedOk w) : PartOk (adjust ws s) where
  config := ⟨h.config.seats, h.config.profiles, h.config.room, h.config.sections, h.config.programs, hw⟩
  counts := { h.counts with apply := fun n hn => by cases hn; decide }
  lines := fun l => ⟨(h.lines l).silent, (h.lines l).present, (h.lines l).retry, (h.lines l).identify⟩
  floors := { h.floors with }
  planner := { h.planner with }
  standby := { h.standby with }
  sessions := { h.sessions with }
  table := { h.table with }

/-- The panel after an apply point. -/
def applied (ws : List Posted) (b : Bool) : State := after (exec (.apply 1) (adjust ws (panel b)))

/-- A profile of the panel after an apply point. -/
def appliedProfile (ws : List Posted) (b : Bool) : Profile := (applied ws b).cfg.profiles[(0 : ProfileId)]

/-- The shared premises: the panel is a state of the part, without GRACE, in session under profile 0. -/
theorem witness_ApplyTakesThePostedWrites :
    posting.mgmt.applyTimer.isSome = true ∧ PartOk (adjust [⟨1, 0, 1, 1⟩] (panel false)) ∧
      (∀ b, noGrace (panel b) ∧ inSession (panel b).floors[(0 : SectionId)] ∧
        (panel b).floors[(0 : SectionId)].profile = some 0) := by
  refine ⟨rfl, adjust_part _ _ (panel_part false) ?_, ?_⟩
  · intro w hw
    have h : w = ⟨1, 0, 1, 1⟩ := List.mem_singleton.mp hw
    subst h
    show 1 ≤ 1 ∧ 1 ≤ 8 ∧ (1 = 1 ∧ 1 = 16 → 1 % 15 = 0)
    decide
  · unfold noGrace inSession; decide +kernel

/-- VOICE; a queue cap of 0; max open 1 with two delegates open; auto-advance with max open 3 and a seat waiting. -/
theorem witness_ApplyTakesThePostedWrites_profile :
    (appliedProfile [⟨1, 0, 0, 2⟩] false).mode = .voice ∧
      (rolesKept (panel false) 0 (applied [⟨1, 0, 2, 0⟩] false) ∧ (appliedProfile [⟨1, 0, 2, 0⟩] false).queueCap = 0 ∧
        (appliedProfile [⟨1, 0, 2, 0⟩] false).autoAdvance = false) ∧
      (rolesKept (panel false) 0 (applied [⟨1, 0, 1, 1⟩] false) ∧ (openNonChairs (panel false) 0).drop 1 = [3] ∧
        appliedProfile [⟨1, 0, 1, 1⟩] false = { openProfile with maxOpen := 1 }) ∧
      (appliedProfile [⟨1, 0, 3, 1⟩, ⟨1, 0, 1, 3⟩] false = { openProfile with autoAdvance := true, maxOpen := 3 } ∧
        (panel false).floors[(0 : SectionId)].state = .normal ∧ admittedCount (panel false) 0 = 2) := by
  unfold rolesKept; decide +kernel

/-- Seat 1 at the new limit, at the new warning point, under a profile without a limit, and at the new silence close time. -/
theorem witness_ApplyTakesThePostedWrites_limits :
    (1 ∈ openNonChairs (panel false) 0 ∧ (panel false).seats[(1 : SeatId)].mic = .on ∧
        (panel true).seats[(1 : SeatId)].mic = .suspended ∧
        (applied [⟨1, 0, 5, 290⟩] false).cfg.seats[(1 : SeatId)].role = (panel false).cfg.seats[(1 : SeatId)].role) ∧
      (limitChanged openProfile (appliedProfile [⟨1, 0, 5, 290⟩] false) = true ∧
        limitDue (appliedProfile [⟨1, 0, 5, 290⟩] false) (panel true).seats[(1 : SeatId)] = true) ∧
      (limitDue (appliedProfile [⟨1, 0, 5, 320⟩, ⟨1, 0, 6, 30⟩] false) (panel true).seats[(1 : SeatId)] = false ∧
        warningDue (appliedProfile [⟨1, 0, 5, 320⟩, ⟨1, 0, 6, 30⟩] false) (panel true).seats[(1 : SeatId)] = true) ∧
      (limitChanged openProfile (appliedProfile [⟨1, 0, 6, 29⟩] false) = true ∧
        warns (appliedProfile [⟨1, 0, 6, 29⟩] false) = false) ∧
      (silenceTime openProfile ≠ silenceTime (appliedProfile [⟨1, 0, 7, 20⟩] false) ∧
        silenceTime (appliedProfile [⟨1, 0, 7, 20⟩] false) = (panel false).seats[(1 : SeatId)].silence) := by decide +kernel

/-- Seat 2 to LISTENER; seat 1 to CHAIR; seat 5, and the holder, to DELEGATE in PRIORITY, seat 5 at the speak limit and at its warning
point too; seat 6 from LISTENER; and the last holder to LISTENER. -/
theorem witness_ApplyTakesThePostedWrites_roles :
    ((applied [⟨0, 2, 0, 2⟩] false).cfg.seats[(2 : SeatId)].role = .listener ∧ (panel false).seats[(2 : SeatId)].mic = .waiting) ∧
      ((panel true).cfg.seats[(1 : SeatId)].role = .delegate ∧ (applied [⟨0, 1, 0, 0⟩] true).cfg.seats[(1 : SeatId)].role = .chair ∧
        isOpenMic (panel true).seats[(1 : SeatId)].mic = true) ∧
      ((panel true).cfg.seats[(5 : SeatId)].role = .chair ∧
        (applied [⟨0, 5, 0, 1⟩, ⟨0, 0, 0, 1⟩] true).cfg.seats[(5 : SeatId)].role = .delegate ∧
        (applied [⟨0, 5, 0, 1⟩, ⟨0, 0, 0, 1⟩] true).cfg.seats[(0 : SeatId)].role = .delegate ∧
        (applied [⟨0, 5, 0, 1⟩, ⟨0, 0, 0, 1⟩] true).floors[(0 : SectionId)].state = .priority ∧
        (0 : SeatId) ∈ (panel true).floors[(0 : SectionId)].holders ∧ (5 : SeatId) ∉ (panel true).floors[(0 : SectionId)].holders) ∧
      (limitDue (appliedProfile [⟨0, 5, 0, 1⟩, ⟨1, 0, 5, 290⟩] true) (panel true).seats[(5 : SeatId)] = true ∧
        warningDue (appliedProfile [⟨0, 5, 0, 1⟩, ⟨1, 0, 5, 320⟩, ⟨1, 0, 6, 30⟩] true) (panel true).seats[(5 : SeatId)] = true) ∧
      ((panel true).cfg.seats[(6 : SeatId)].role = .listener ∧ (panel true).seats[(6 : SeatId)].mic = .off ∧
        (applied [⟨0, 6, 0, 1⟩] true).cfg.seats[(6 : SeatId)].role = .delegate) ∧
      ((panel true).floors[(0 : SectionId)].state = .priority ∧
        ∀ i ∈ (panel true).floors[(0 : SectionId)].holders, (applied [⟨0, 0, 0, 2⟩] true).cfg.seats[i].role = .listener ∧
          (panel true).cfg.seats[i].role ≠ .listener) := by
  refine ⟨⟨?_, ?_⟩, ⟨?_, ?_, ?_⟩, ⟨?_, ?_, ?_, ?_, ?_, ?_⟩, ⟨?_, ?_⟩, ⟨?_, ?_, ?_⟩, ?_, ?_⟩ <;> decide +kernel

/-- The chair's share, whose input a posted write takes away, and which stands under another write. -/
theorem witness_ApplyTakesThePostedWrites_share :
    (modFollow 0 (fun f => { f with share := some ⟨0, 2⟩ }) (panel true)).video.follow[(0 : SectionId)].share = some ⟨0, 2⟩ ∧
      (applied [⟨0, 0, 5, 3⟩] true).cfg.seats[(0 : SeatId)].share ≠ (panel true).cfg.seats[(0 : SeatId)].share ∧
      (applied [⟨1, 0, 1, 1⟩] true).cfg.seats[(0 : SeatId)].share = (panel true).cfg.seats[(0 : SeatId)].share ∧
      (applied [⟨1, 0, 1, 1⟩] true).standby.room = (panel true).standby.room := by decide +kernel

/-- The write queue with a talk threshold of profile 7, between two other writes. -/
def talkPosted : State :=
  modMgmt (fun m => { m with posted := [⟨1, 7, 8, 500⟩, ⟨1, 7, 8, 300⟩, ⟨1, 6, 8, 900⟩] }) meeting

/-- In the order of the checks; then the two values at which an enumerated field and a field of one octet end, and the writes of the
extension limit 100 (posted as 90) and of a silence threshold above the posted talk threshold (posted as 300). -/
theorem witness_WriteRequests :
    (tableEntries 9 = none ∧ tableEntries 8 = some 12 ∧ readOnlyTable 8 = true ∧ tableEntries 1 = some 8 ∧
        readOnlyTable 1 = false ∧ 8 ≤ (8 : Octet).toNat ∧ (7 : Octet).toNat < 8) ∧
      (fieldOf 1 17 = none ∧ fieldOf 0 7 = some .runtime ∧ fieldOf 0 0 = some .enumerated ∧ definesValue 0 0 3 = false ∧
        definesValue 0 0 2 = true) ∧
      (fieldOf 0 1 = some (.numeric 0 8191) ∧ fieldOf 1 8 = some (.numeric 0 32767)) ∧
      (fieldOf 1 16 = some (.numeric 0 240) ∧ max 0 (min 240 100) / 15 * 15 = 90) ∧
      (fieldOf 1 9 = some (.numeric 0 32767) ∧ min (max 0 (min 32767 400)) (postedTalk talkPosted 7) = 300) ∧
      (fieldOf 6 0 = some .enumerated ∧ 255 < 256) ∧
      ((∀ w ∈ posting.mgmt.posted, isTalkWrite 7 w = false) ∧
        talkPosted.mgmt.posted = [⟨1, 7, 8, 500⟩] ++ ⟨1, (7 : ProfileId).val, 8, 300⟩ :: [⟨1, 6, 8, 900⟩] ∧
        isTalkWrite 7 ⟨1, 6, 8, 900⟩ = false) := by decide +kernel

/-- A queue of events: one for seat 1 among others; as many as it holds but one; and 48. -/
def eventsOf (n : Nat) : List Event := (List.range n).map fun x => ⟨.seat, octet x, 3, 0⟩

theorem witness_EventQueue :
    (eventsOf 3 = [⟨.seat, 0, 3, 0⟩] ++ ⟨.seat, 1, 3, 0⟩ :: [⟨.seat, 2, 3, 0⟩] ∧
        Event.key ⟨.seat, 1, 3, 0⟩ = Event.key ⟨.seat, 1, 0, 0⟩ ∧
        ∀ x ∈ ([⟨.seat, 0, 3, 0⟩] ++ [⟨.seat, 2, 3, 0⟩] : List Event), x.key ≠ Event.key ⟨.seat, 1, 0, 0⟩) ∧
      ((∀ x ∈ eventsOf 47, x.key ≠ Event.key ⟨.limit, 1, 2, 0⟩) ∧ (eventsOf 47).length < 48) ∧
      ((∀ x ∈ eventsOf 48, x.key ≠ Event.key ⟨.limit, 1, 2, 0⟩) ∧ 48 ≤ (eventsOf 48).length) := by decide +kernel

/-! ## Witnesses: trunk and lines -/

theorem witness_LinkStates :
    (validInbound (some ⟨Vector.replicate 4 0, 0, 0, 0⟩)).isSome = true ∧ (validInbound none).isSome = false ∧
      (validInbound (some ⟨Vector.replicate 4 0, 0, 0, 1⟩)).isSome = false ∧
      ((linkUpWith 0).trunk.link = .up ∧ (linkUpWith 158).trunk.miss + 1 < 160 ∧ (linkUpWith 159).trunk.miss + 1 = 160) ∧
      ((linkDownWith 0).trunk.link = .down ∧ (linkDownWith 14).trunk.upCount + 1 < 16 ∧
        (linkDownWith 15).trunk.upCount + 1 = 16) := by decide

theorem witness_FramePeriodSendsAFrame :
    (modTrunk (fun t => { t with frameIndex := 7 }) (inRoomState ⟨.standby, 0, none⟩)).standby.room ≠ .active ∧
      (modTrunk (fun t => { t with frameIndex := 7 }) (inRoomState ⟨.standby, 0, none⟩)).trunk.frameIndex < 8 ∧
      meeting.standby.room = .active ∧ (after (exec (.freeRunFramePeriod none) meeting)).standby.room = .active := by
  decide +kernel

/-- A frame period in which no timer ends: the meeting is in it, with DENIED of seat 3 about to stop. -/
theorem witness_FramePeriodTimers :
    MidSuperframe meeting ∧ TimersRun meeting ∧ (modSeat 3 (fun x => { x with denied := some 15999 }) meeting).seats[3].denied =
      some 15999 := by
  refine ⟨?_, ?_, rfl⟩
  · constructor <;> decide +kernel
  · constructor <;> (try unfold minuteDue) <;> decide +kernel

/-- The quiet room one frame period before its idle delay. -/
def idleRoom : State := modStandby (fun b => { b with idle := idleDelayFrames quietRoom - 1 }) quietRoom

theorem idleRoom_lines : LinesOk idleRoom := by
  intro l; constructor <;> revert l <;> decide +kernel

theorem idleRoom_seats : ∀ i : SeatId, SeatOk idleRoom.seats[i] := by
  intro i; constructor <;> revert i <;> decide +kernel

theorem idleRoom_counts : CountsOk idleRoom := by
  constructor
  case seats => exact idleRoom_seats
  case bookings =>
    have h : ∀ k : SlotId, ∀ b ∈ idleRoom.cal.slots[k], False := by decide +kernel
    intro k b hb
    exact (h k b hb).elim
  all_goals decide +kernel

theorem witness_FramePeriodTimers_idle :
    LinesOk idleRoom ∧ CountsOk idleRoom ∧ MidSuperframe idleRoom ∧
      (idleRoom.standby.room = .active ∧ idleRoom.standby.wake = none ∧ (∀ i : SeatId, idleRoom.seats[i].mic = .off) ∧
        idleRoom.standby.idle + 1 = idleDelayFrames idleRoom ∧ idleRoom.cal.valid = true ∧ tableQuiet idleRoom = true ∧
        idleRoom.planner.state = .idle ∧
        (∀ k : SlotId, ∀ b ∈ idleRoom.cal.slots[k], leadInHas idleRoom b idleRoom.cal.minute = false) ∧ ¬ minuteDue idleRoom) := by
  refine ⟨idleRoom_lines, idleRoom_counts, ?_, ?_⟩
  · constructor <;> decide +kernel
  · unfold minuteDue; decide +kernel

/-- The meeting with this dwell deadline in room A, and none elsewhere. -/
def dwellOne (pending : Bool) : State := following { Follow.idle with dwell := some 1, pendingFlag := pending }

/-- A retry timer, a minute, the wake timer and a reply timer at their last count, and a dwell deadline at 1. -/
theorem witness_FramePeriodTimers_ends :
    (modLine 0 (fun u => { u with state := .fault, retry := some 15999 }) meeting).lines[0].retry = some 15999 ∧
      minuteDue (modCal (fun c => { c with second := 59, frame := 15999 }) meeting) ∧
      ((inRoomState ⟨.waking, 0, some 31999⟩).standby.room = .waking ∧ 32000 ≤ 31999 + 1 ∧
        1 ≤ (inRoomState ⟨.waking, 0, some 31999⟩).cfg.room.idleDelay) ∧
      (∃ x ∈ (modVideo (fun v => { v with inFlight := [⟨.power 7 true, 31999⟩] }) meeting).video.inFlight, 32000 ≤ x.timer + 1) ∧
      (∀ pending, (dwellOne pending).video.follow[(0 : SectionId)].dwell = some 1 ∧
        (dwellOne pending).video.follow[(0 : SectionId)].state = .following ∧
        TimersRun (modFollow 0 (fun y => { y with dwell := none }) (dwellOne pending)) ∧
        ∀ x : SectionId, x ≠ 0 → (dwellOne pending).video.follow[x].dwell = none) := by
  refine ⟨rfl, by unfold minuteDue; decide +kernel, by decide +kernel, by decide +kernel, fun pending => ⟨?_, ?_, ?_, ?_⟩⟩
  · cases pending <;> decide +kernel
  · cases pending <;> decide +kernel
  · cases pending <;> (constructor <;> (try unfold minuteDue) <;> decide +kernel)
  · cases pending <;> decide +kernel

/-- R165: a wake that ends in a frame period leaves that frame period without a computation; another has one due. -/
theorem test_no_computation_as_the_wake_ends :
    (after (exec (.freeRunFramePeriod none) (inRoomState ⟨.waking, 0, some 31999⟩))).standby.room = .active ∧
      (after (exec (.freeRunFramePeriod none) (inRoomState ⟨.waking, 0, some 31999⟩))).mix.computed = true ∧
      (after (exec (.freeRunFramePeriod none) meeting)).mix.computed = false := by decide +kernel

/-- The meeting with an UP link, and this reply, these events and this mark in the Management Unit. -/
def telling (reply : Option Reply) (events : List Event) (mark : Bool) : State :=
  modMgmt (fun m => { m with reply := reply, events := events, resync := mark }) (linkUpWith 0)

theorem witness_Superframes_cells :
    meeting.trunk.link = .down ∧
      ((telling (some ⟨1, .ok, Vector.replicate 14 0⟩) [⟨.line, 0, 1, 0⟩] true).trunk.link = .up ∧
        (superframeEnd (telling (some ⟨1, .ok, Vector.replicate 14 0⟩) [⟨.line, 0, 1, 0⟩] true)).mgmt.reply =
          some ⟨1, .ok, Vector.replicate 14 0⟩) ∧
      ((superframeEnd (telling none [⟨.line, 0, 1, 0⟩] true)).mgmt.reply = none ∧
        (superframeEnd (telling none [⟨.line, 0, 1, 0⟩] true)).mgmt.events = ⟨.line, 0, 1, 0⟩ :: []) ∧
      ((superframeEnd (telling none [] true)).mgmt.reply = none ∧ (superframeEnd (telling none [] true)).mgmt.events = [] ∧
        (superframeEnd (telling none [] true)).mgmt.resync = true) ∧
      ((superframeEnd (telling none [] false)).mgmt.events = [] ∧
        (superframeEnd (telling none [] false)).mgmt.resync = false) := by decide +kernel

/-- The apply timer at its last count, in the superframe of the WRITE and after it. -/
theorem witness_Superframes :
    (meeting.trunk.upFromStart = false ∧ meeting.lines[0].state = .running ∧ meeting.lines[0].turnNow = false ∧
        (modLine 0 (fun u => { u with turnNow := true, turn := 15 }) meeting).lines[0].turn = 15) ∧
      meeting.mgmt.applyTimer = none ∧ (posting.trunk.upFromStart = false ∧ posting.mgmt.applyTimer = some 31) ∧
      (posting.mgmt.applyFresh = false ∧ 32 ≤ 31 + 1 ∧ posting.mgmt.posted ≠ []) ∧
      (modMgmt (fun m => { m with applyFresh := true }) posting).mgmt.applyFresh = true ∧
      ((modMgmt (fun m => { m with applyTimer := some 30 }) posting).mgmt.applyTimer = some 30 ∧ 30 + 1 < 32) := by decide

/-- The meeting with line A at a turn of seat 1, its count of superframes and its state as given, and these octets come back. -/
def atTurn (x : LineState) (count : Nat) (up : List Octet) : State :=
  modLine 0 (fun u => { u with state := x, enumCount := count, turnNow := true, turn := 1, up := up }) meeting

/-- A line in the 31st and the 32nd superframe of its enumeration, and before the first; a turn to judge, on one line alone; and no turn
to judge. -/
theorem witness_Superframes_lines :
    ((atTurn .enumerating 30 []).trunk.upFromStart = false ∧ (atTurn .enumerating 30 []).lines[0].state = .enumerating ∧
        (atTurn .enumerating 30 []).lines[0].turnNow = true ∧ (atTurn .enumerating 30 []).lines[0].enumCount + 1 < 32 ∧
        32 ≤ (atTurn .enumerating 31 []).lines[0].enumCount + 1 ∧ (lineIn .enumerating).lines[0].turnNow = false) ∧
      ((atTurn .running 0 []).mgmt.applyTimer = none ∧ isPolled (atTurn .running 0 []).lines[0] = true ∧
        (atTurn .running 0 []).lines[0].judged = false ∧
        ∀ m : SectionId, m ≠ 0 → (atTurn .running 0 []).lines[m].turnNow = false) ∧
      (∀ l : SectionId, meeting.lines[l].turnNow = false) := by decide +kernel

/-- R4: a TALK PRESS in the octets of seat 1's turn closes its microphone; no octets are a missed turn. -/
theorem test_turn_is_judged :
    (after (exec .superframe (atTurn .running 0 [2, 1, 1, 0, 0, 0, 0, 0xFC]))).seats[1].mic = .closing ∧
      (after (exec .superframe (atTurn .running 0 []))).seats[1].missCount = 1 := by decide +kernel

/-- The state of a superframe with one frame period that had no valid inbound frame. -/
def cellShort : State := modTrunk (fun t => { t with frameIndex := 1 }) (linkUpWith 0)

theorem witness_InboundCells :
    ((linkUpWith 0).trunk.upFromStart = true ∧ (linkUpWith 0).trunk.inCell.length = 2 * (linkUpWith 0).trunk.frameIndex) ∧
      meeting.trunk.upFromStart = false ∧
      (cellShort.trunk.upFromStart = true ∧ cellShort.trunk.inCell.length ≠ 2 * cellShort.trunk.frameIndex) ∧
      (#v[0x10, 0x15, 1, 0, 0, 0, 0, 0, 0, 0, 0, 0, 0, 0, 0, 0] : Vector Octet 16)[0].toNat / 16 = 1 ∧
      (#v[0x0F, 0x15, 1, 0, 0, 0, 0, 0, 0, 0, 0, 0, 0, 0, 0, 0] : Vector Octet 16)[0].toNat / 16 ≠ 1 ∧
      isRequestCode 0x18 = false ∧ isRequestCode 0 = false := by decide

theorem witness_LineFrameReturns :
    isPolled meeting.lines[0] = true ∧ (modLine 0 (fun u => { u with monitor := 62 }) meeting).lines[0].monitor + 1 < 64 ∧
      isPolled (lineIn .stopped).lines[0] = false := by decide

theorem witness_LineStates_fault :
    isPolled (modLine 0 (fun u => { u with monitor := 63 }) meeting).lines[0] = true ∧
      (modLine 0 (fun u => { u with monitor := 63 }) meeting).lines[0].monitor + 1 = 64 ∧ meeting.seats[1].present = true := by
  decide

theorem witness_LineStates_enumeration :
    (lineIn .fault).lines[0].state = .fault ∧ (lineIn .enumerating).lines[0].state = .enumerating := by decide

theorem witness_LineStates_stop :
    (afterApply (lineIn .stopped)).lines[0].state = .stopped ∧ (afterApply meeting).lines[0].state ≠ .stopped := by decide

theorem witness_Hellos :
    (isPolled meeting.lines[sectionOf 4] = true ∧ meeting.seats[(4 : SeatId)].present = false ∧
        meeting.seats[(4 : SeatId)].mic = .off) ∧
      (meeting.seats[(1 : SeatId)].present = true ∧ meeting.lines[sectionOf 1].state = .running) ∧
      ((lineIn .enumerating).seats[(1 : SeatId)].present = true ∧ (lineIn .enumerating).lines[sectionOf 1].state = .enumerating ∧
        (lineIn .enumerating).seats[(1 : SeatId)].kind = .delegateUnit) := by decide +kernel

theorem witness_RepliesWithoutEffect :
    (meeting.seats[(4 : SeatId)].present = false ∧ meeting.lines[sectionOf 4].state = .running) ∧
      ((lineIn .enumerating).seats[(4 : SeatId)].present = false ∧ (lineIn .enumerating).lines[sectionOf 4].state = .enumerating) ∧
      (meeting.seats[(1 : SeatId)].present = true ∧ isPolled meeting.lines[sectionOf 1] = true) ∧
      ((lineIn .enumerating).seats[(1 : SeatId)].present = true ∧
        (lineIn .enumerating).lines[sectionOf 1].state = .enumerating) := by decide +kernel

/-- The meeting with seat 1 in a role, at a unit with every key. -/
def seat1Is (role : Role) : State :=
  modSeat 1 (fun x => { x with kind := .chairUnit })
    { meeting with cfg := { meeting.cfg with seats := meeting.cfg.seats.set 1 { SeatConfig.default with role := role } } }

/-- A key that a delegate unit lacks, a LISTENER's TALK, a DELEGATE's NEXT, a TALK RELEASE, and a PRIORITY RELEASE by no holder. -/
theorem witness_RepliesWithoutEffect_keys :
    (∀ role, isLive (seat1Is role) 1 = true ∧ latchMode (seat1Is role) 1 = .off) ∧
      (isLive meeting 1 = true ∧ latchMode meeting 1 = .off ∧ KeyDropped meeting 1 .next .press) ∧
      KeyDropped (seat1Is .listener) 1 .talk .press ∧ KeyDropped (seat1Is .delegate) 1 .next .press ∧
      KeyDropped (seat1Is .chair) 1 .talk .release ∧ KeyDropped (seat1Is .delegate) 1 .priority .release := by
  unfold KeyDropped
  refine ⟨fun role => ?_, ?_, ?_, ?_, ?_, ?_⟩
  · cases role <;> decide +kernel
  all_goals decide +kernel

theorem witness_KeyLatches :
    (draining.seats[(1 : SeatId)].present = true ∧ draining.lines[sectionOf 1].state = .running ∧ latchMode draining 1 = .all) ∧
      ((inRoomState ⟨.standby, 0, none⟩).seats[(1 : SeatId)].present = true ∧
        (inRoomState ⟨.standby, 0, none⟩).lines[sectionOf 1].state = .running ∧
        latchMode (inRoomState ⟨.standby, 0, none⟩) 1 = .talkOnly) := by decide +kernel

/-- A state with TALK PRESS and an overrun in seat 3's latch. -/
def latched (s : State) : State := modSeat 3 (fun x => { x with latch := some ⟨.talk, .press⟩, overrun := true }) s

theorem latched_counts :
    CountsOk (latched (inRoomState ⟨.waking, 0, some 31999⟩)) ∧ CountsOk (latched draining) := by
  constructor <;> constructor
  case left.seats | right.seats => intro i; constructor <;> revert i <;> decide +kernel
  case left.bookings | right.bookings => exact meeting_bookings
  all_goals decide +kernel

/-- The wake timer's end, and a rebuild, with a key latched. -/
theorem witness_KeyLatches_release :
    CountsOk (latched (inRoomState ⟨.waking, 0, some 31999⟩)) ∧ CountsOk (latched draining) ∧
    ((latched (inRoomState ⟨.waking, 0, some 31999⟩)).standby.wake.isSome = true ∧
        1 ≤ (latched (inRoomState ⟨.waking, 0, some 31999⟩)).cfg.room.idleDelay ∧
        ∀ i : SeatId, (latched (inRoomState ⟨.waking, 0, some 31999⟩)).seats[i].latch.isSome = true →
          isLive (latched (inRoomState ⟨.waking, 0, some 31999⟩)) i = true) ∧
      ((latched draining).planner.state = .draining ∧
        (latched draining).planner.target = some ⟨.closed, .opened, .opened⟩ ∧ (latched draining).planner.pendingPlan = none ∧
        drainOver (latched draining) = true ∧ (latched draining).standby.room = .active ∧
        (∀ i ∈ affectedSeats (latched draining), (latched draining).seats[i].latch.isSome = true →
          isLive (latched draining) i = true) ∧
        (after (exec .rebuild (unlatched (affectedSeats (latched draining)) (latched draining)))).standby.room = .active) := by
  refine ⟨latched_counts.1, latched_counts.2, ?_⟩; decide +kernel

/-- The quiet room in a room state, with this key latched at seat 3. -/
def asleepWith (x : Standby) (e : KeyEvent) : State :=
  modSeat 3 (fun y => { y with latch := some e, overrun := true }) (modStandby (fun _ => x) quietRoom)

/-- A report that takes no drain, in WAKING and in STANDBY, with a TALK PRESS latched or another key. -/
theorem witness_KeyLatches_asleep :
    (∀ e, e = ⟨.talk, .press⟩ ∨ e = ⟨.next, .press⟩ → ∀ x, x = ⟨.standby, 0, none⟩ ∨ x = ⟨.waking, 0, some 5⟩ →
      (afterApply (asleepWith x e)).planner.state = .idle ∧ (afterApply (asleepWith x e)).planner.pendingPlan = none ∧
        (⟨.closed, .opened, .opened⟩ : Plan) ≠ (afterApply (asleepWith x e)).planner.active ∧
        (afterApply (asleepWith x e)).standby.room ≠ .active ∧ (∀ i : SeatId, (afterApply (asleepWith x e)).seats[i].gate = 0) ∧
        (∀ k : SlotId, ∀ b ∈ (afterApply (asleepWith x e)).cal.slots[k],
          b.state = .scheduled ∧ leadInHas (afterApply (asleepWith x e)) b (afterApply (asleepWith x e)).cal.minute = false) ∧
        isAffected (afterApply (asleepWith x e)).planner.active ⟨.closed, .opened, .opened⟩ (sectionOf 3) = true ∧
        (afterApply (asleepWith x e)).seats[(3 : SeatId)].latch = some e) ∧
      planOf 1 0 0 = some ⟨.closed, .opened, .opened⟩ := by
  refine ⟨?_, by decide⟩
  rintro e (rfl | rfl) x (rfl | rfl) <;> decide +kernel

/-- Each clause of SeatStateCells but those of a session near its end: a LISTENER; STANDBY; every mic state; the head of a queue; an
ENUMERATING line and a position to identify; DENIED and LIMIT_WARN; a floor speaker and none; and a session with no notice. -/
theorem witness_SeatStateCells :
    ((seat1Is .listener).cfg.seats[(1 : SeatId)].role = .listener ∧ (inRoomState ⟨.standby, 0, none⟩).standby.room = .standby) ∧
      (meeting.standby.room ≠ .standby ∧ meeting.cfg.seats[(1 : SeatId)].role ≠ .listener ∧
        meeting.seats[(3 : SeatId)].mic = .off ∧ meeting.seats[(1 : SeatId)].mic = .on ∧
        (panel true).seats[(1 : SeatId)].mic = .suspended) ∧
      (meeting.seats[(2 : SeatId)].mic = .waiting ∧ meeting.floors[(0 : SectionId)].queue = [] ++ 2 :: [] ∧ (2 : SeatId) ∉ []) ∧
      ((lineIn .enumerating).lines[sectionOf 1].state = .enumerating ∧ meeting.lines[sectionOf 1].state ≠ .enumerating ∧
        meeting.seats[(1 : SeatId)].identify = false) ∧
      ((modSeat 1 (fun x => { x with denied := some 0 }) meeting).seats[(1 : SeatId)].denied.isSome = true ∧
        meeting.seats[(1 : SeatId)].denied = none ∧ meeting.seats[(1 : SeatId)].limitWarning = false) ∧
      (meeting.floors[(0 : SectionId)].speaker = some 1 ∧ meeting.floors[(1 : SectionId)].speaker = none) ∧ SessionsOk meeting ∧
      (∀ k : SlotId, ∀ b ∈ meeting.cal.slots[k], b.first = 0 → b.state ≠ .ending ∧ b.state ≠ .grace) := by
  refine ⟨?_, ?_, ?_, ?_, ?_, ?_, meeting_sessions, ?_⟩ <;> decide +kernel

theorem witness_MissedTurn :
    isPolled meeting.lines[sectionOf 1] = true ∧ meeting.seats[(1 : SeatId)].present = true ∧
      (modSeat 1 (fun x => { x with missCount := 1 }) meeting).seats[(1 : SeatId)].missCount + 1 < 3 ∧
      (modSeat 1 (fun x => { x with missCount := 2 }) meeting).seats[(1 : SeatId)].missCount + 1 = 3 ∧
      meeting.seats[(4 : SeatId)].present = false := by decide +kernel

/-! ## Witnesses: the floor -/

/-- A key event of a seat reaches the floor: what DelegateKeys, Denials and ChairKeys ask of every seat. -/
def keyTo (s : State) (i : SeatId) (role : Role) : Prop :=
  isLive s i = true ∧ latchMode s i = .off ∧ s.cfg.seats[i].role = role ∧ roomOfSeat s i = 0

/-- Seat 3 may ask to talk at a NORMAL floor under this profile. -/
def mayTalk (p : Profile) : Prop :=
  keyTo (under p) 3 .delegate ∧ (under p).seats[(3 : SeatId)].mic = .off ∧ roomInSession (under p) 0 = true ∧
    (under p).floors[(0 : SectionId)].state = .normal ∧ floorProfile (under p) 0 = some p ∧
    (3 : SeatId) ∉ (under p).floors[(0 : SectionId)].queue

def requestProfile : Profile := { openProfile with mode := .request }

/-- OPEN mode with max open 1, which the meeting has reached, under a full policy. -/
def fullProfile (x : FullPolicy) : Profile := { openProfile with maxOpen := 1, fullPolicy := x }

/-- VOICE mode with max open 1, reached too. -/
def voiceProfile : Profile := { openProfile with mode := .voice, maxOpen := 1 }

/-- The floor of room A in PRIORITY with a holder, and seat 1 suspended. -/
def withHolders (hs : List SeatId) (s : State) : State :=
  modSeat 1 (fun x => { x with mic := .suspended })
    (modFloor 0 (fun f => { f with state := .priority, holders := hs, speaker := hs.getLast? }) s)

theorem witness_DelegateKeys :
    (mayTalk openProfile ∧ openProfile.mode ≠ .request ∧ admittedCount (under openProfile) 0 + 1 = openProfile.maxOpen) ∧
      (mayTalk requestProfile ∧ requestProfile.mode = .request ∧ requestProfile.queueCap ≠ 0 ∧
        (under requestProfile).floors[(0 : SectionId)].queue.length + 1 = requestProfile.queueCap) ∧
      (mayTalk (fullProfile .queue) ∧ (fullProfile .queue).maxOpen = admittedCount (under (fullProfile .queue)) 0) ∧
      (mayTalk (fullProfile .replaceOldest) ∧
        (fullProfile .replaceOldest).maxOpen = admittedCount (under (fullProfile .replaceOldest)) 0 ∧
        (openNonChairs (under (fullProfile .replaceOldest)) 0).head? = some 1 ∧
        (under (fullProfile .replaceOldest)).seats[(1 : SeatId)].mic = .on ∧
        (1 : SeatId) ∉ (under (fullProfile .replaceOldest)).floors[(0 : SectionId)].queue) := by
  unfold mayTalk keyTo; refine ⟨?_, ?_, ?_, ?_⟩ <;> decide +kernel

/-- A floor in PRIORITY where the press queues, and one where it is refused. -/
theorem witness_DelegateKeys_priority :
    (keyTo (withHolders [9] (under requestProfile)) 3 .delegate ∧
        (withHolders [9] (under requestProfile)).seats[(3 : SeatId)].mic = .off ∧
        roomInSession (withHolders [9] (under requestProfile)) 0 = true ∧
        (withHolders [9] (under requestProfile)).floors[(0 : SectionId)].state = .priority ∧
        floorProfile (withHolders [9] (under requestProfile)) 0 = some requestProfile ∧ requestProfile.mode = .request ∧
        (withHolders [9] (under requestProfile)).floors[(0 : SectionId)].queue.length < requestProfile.queueCap) ∧
      (keyTo (withHolders [9] meeting) 3 .delegate ∧ floorProfile (withHolders [9] meeting) 0 = some openProfile ∧
        openProfile.mode = .openMode ∧ openProfile.fullPolicy = .queue ∧
        (withHolders [9] (under voiceProfile)).floors[(0 : SectionId)].state = .priority ∧ voiceProfile.mode = .voice) := by
  unfold keyTo; decide +kernel

/-- Seat 2 WAITING; seat 1 ON, and SUSPENDED; seat 3 OFF with the floor settled. -/
theorem witness_DelegateKeys_open :
    (keyTo meeting 2 .delegate ∧ floorProfile meeting 0 = some openProfile ∧ openProfile.autoAdvance = false ∧
        meeting.seats[(2 : SeatId)].mic = .waiting ∧ inSession meeting.floors[(0 : SectionId)]) ∧
      (keyTo meeting 1 .delegate ∧ meeting.seats[(1 : SeatId)].mic = .on ∧ FloorOk meeting) ∧
      (keyTo (panel true) 1 .delegate ∧ (panel true).seats[(1 : SeatId)].mic = .suspended ∧
        inSession (panel true).floors[(0 : SectionId)] ∧ FloorOk (panel true)) ∧
      (keyTo meeting 3 .delegate ∧ meeting.seats[(3 : SeatId)].mic = .off ∧ settled meeting 0) := by
  unfold keyTo inSession settled
  refine ⟨?_, ⟨?_, ?_, meeting_floors⟩, ⟨?_, ?_, ?_, panel_floors true⟩, ?_⟩ <;> decide +kernel

/-- Room A with nobody in session and a booking of it in PENDING. -/
def awaited : State :=
  { meeting with
    seats := modSeat 1 (fun _ => micSeat .off 0 0) (modSeat 2 (fun _ => micSeat .off 0 0) meeting) |>.seats
    floors := State.reset.floors
    cal := { meeting.cal with slots := Calendar.powerOn.slots.set 0 (some { meetingBooking with state := .pending }) } }

theorem witness_Denials :
    (mayTalk (fullProfile .deny) ∧ (fullProfile .deny).maxOpen = admittedCount (under (fullProfile .deny)) 0) ∧
      (mayTalk { requestProfile with queueCap := 0 } ∧ mayTalk { requestProfile with queueCap := 1 } ∧
        (under { requestProfile with queueCap := 1 }).floors[(0 : SectionId)].queue.length = 1) ∧
      (mayTalk { fullProfile .queue with queueCap := 0 } ∧ mayTalk { fullProfile .queue with queueCap := 1 } ∧
        admittedCount (under { fullProfile .queue with queueCap := 1 }) 0 = 1 ∧
        (under { fullProfile .queue with queueCap := 1 }).floors[(0 : SectionId)].queue.length = 1) ∧
      (mayTalk voiceProfile ∧ voiceProfile.mode = .voice ∧ voiceProfile.maxOpen = admittedCount (under voiceProfile) 0) ∧
      (keyTo awaited 3 .delegate ∧ awaited.seats[(3 : SeatId)].mic = .off ∧ awaited.floors[(0 : SectionId)].state = .inactive ∧
        roomPending awaited 0 = true ∧ settled awaited 0) := by
  unfold mayTalk keyTo settled; refine ⟨?_, ?_, ?_, ?_, ?_⟩ <;> decide +kernel

/-- The meeting with the chair ON in its open set too. -/
def chairOn : State :=
  modSeat 0 (fun x => { x with mic := .on, gate := 256 })
    (modFloor 0 (fun f => { f with openSet := f.openSet ++ [⟨0, 2, false⟩], speaker := some 0 }) meeting)

/-- A state of the meeting with its session in GRACE, 40 minutes after its start. -/
def inGrace (s : State) : State := modSlot 0 (some { meetingBooking with state := .grace, duration := 40 }) s

/-- What ChairKeys asks of the chair of the meeting in every clause. -/
def chairKeys (s : State) (p : Profile) : Prop :=
  keyTo s 0 .chair ∧ floorProfile s 0 = some p ∧ inSession s.floors[(0 : SectionId)] ∧
    s.seats[(0 : SeatId)].kind = .chairUnit

theorem witness_ChairKeys :
    (chairKeys meeting openProfile ∧ meeting.seats[(0 : SeatId)].mic = .off ∧ roomInSession meeting 0 = true) ∧
      (chairKeys (modSeat 0 (fun x => { x with mic := .suspended }) (withHolders [9] meeting)) openProfile ∧
        (modSeat 0 (fun x => { x with mic := .suspended }) (withHolders [9] meeting)).seats[(0 : SeatId)].mic = .suspended) ∧
      (chairKeys (panel false) openProfile ∧ (panel false).seats[(0 : SeatId)].mic = .on ∧ FloorOk (panel false) ∧
        outlives (panel false) 0 0) ∧
      settled meeting 0 := by
  unfold chairKeys keyTo inSession outlives noGrace settled
  refine ⟨?_, ?_, ⟨?_, ?_, panel_floors false, ?_⟩, ?_⟩ <;> decide +kernel

/-- NEXT with a place and at max; NEXT with nobody waiting; CLEAR of a chair's and a delegate's microphone and of a queue. -/
theorem witness_ChairKeys_next_clear :
    (meeting.floors[(0 : SectionId)].queue = 2 :: [] ∧ meeting.floors[(0 : SectionId)].state = .normal ∧
        openProfile.mode ≠ .voice ∧ openProfile.autoAdvance = false) ∧
      (chairKeys (under (fullProfile .deny)) (fullProfile .deny) ∧
        (fullProfile .deny).maxOpen = admittedCount (under (fullProfile .deny)) 0 ∧
        (openNonChairs (under (fullProfile .deny)) 0).head? = some 1 ∧
        (1 : SeatId) ∉ (under (fullProfile .deny)).floors[(0 : SectionId)].queue ∧
        (under (fullProfile .deny)).seats[(1 : SeatId)].mic = .on) ∧
      (chairKeys (modFloor 0 (fun f => { f with queue := [] }) meeting) openProfile ∧
        settled (modFloor 0 (fun f => { f with queue := [] }) meeting) 0) ∧
      (noGrace chairOn ∧
        ∃ e ∈ chairOn.floors[(0 : SectionId)].openSet, ∃ e' ∈ chairOn.floors[(0 : SectionId)].openSet,
          chairOn.cfg.seats[e.seat].role = .chair ∧ chairOn.cfg.seats[e'.seat].role ≠ .chair ∧
          isOpenMic chairOn.seats[e'.seat].mic = true ∧ e'.seat ∉ chairOn.floors[(0 : SectionId)].queue) ∧
      (∃ e ∈ (inGrace chairOn).floors[(0 : SectionId)].openSet, (inGrace chairOn).cfg.seats[e.seat].role = .chair) := by
  unfold chairKeys keyTo inSession noGrace settled; decide +kernel

/-- The first holder, a second one, and a holder that presses again. -/
theorem witness_ChairKeys_priority :
    (meeting.floors[(0 : SectionId)].state = .normal ∧ meeting.floors[(0 : SectionId)].holders = [] ∧
        ∃ e ∈ meeting.floors[(0 : SectionId)].openSet, meeting.cfg.seats[e.seat].role ≠ .chair ∧
          meeting.seats[e.seat].mic = .on) ∧
      (chairKeys (withHolders [9] meeting) openProfile ∧ (withHolders [9] meeting).floors[(0 : SectionId)].state = .priority ∧
        (0 : SeatId) ∉ (withHolders [9] meeting).floors[(0 : SectionId)].holders ∧
        (withHolders [9] meeting).seats[(0 : SeatId)].mic = .off) ∧
      (chairKeys (withHolders [0] chairOn) openProfile ∧ (0 : SeatId) ∈ (withHolders [0] chairOn).floors[(0 : SectionId)].holders ∧
        settled (withHolders [0] chairOn) 0) := by
  unfold chairKeys keyTo inSession settled; decide +kernel

/-- The chair as holder with a microphone that PRIORITY opened. -/
def prioritySpoken : State :=
  modFloor 0 (fun f => { f with openSet := [⟨1, 1, false⟩, ⟨0, 2, true⟩] }) (withHolders [0] chairOn)

/-- The last holder, with and without the mark; one of two holders; a chair that is no holder. -/
theorem witness_ChairKeys_release :
    (chairKeys prioritySpoken openProfile ∧ prioritySpoken.floors[(0 : SectionId)].state = .priority ∧
        (0 : SeatId) ∈ prioritySpoken.floors[(0 : SectionId)].holders ∧
        (0 : SeatId) ∉ prioritySpoken.floors[(0 : SectionId)].queue ∧ outlives prioritySpoken 0 0 ∧
        outlives (inGrace prioritySpoken) 0 0 ∧
        hasEntry prioritySpoken 0 0 true ∧ isOpenMic prioritySpoken.seats[(0 : SeatId)].mic = true ∧
        prioritySpoken.floors[(0 : SectionId)].holders.filter (· != 0) = [] ∧
        ∃ e ∈ prioritySpoken.floors[(0 : SectionId)].openSet, e.seat ≠ 0 ∧ prioritySpoken.seats[e.seat].mic = .suspended) ∧
      (¬ hasEntry (withHolders [0] chairOn) 0 0 true ∧ (withHolders [0] chairOn).seats[(0 : SeatId)].mic = .on) ∧
      (chairKeys (withHolders [9, 0] chairOn) openProfile ∧
        (withHolders [9, 0] chairOn).floors[(0 : SectionId)].holders.filter (· != 0) ≠ [] ∧ noGrace (withHolders [9, 0] chairOn)) ∧
      ((0 : SeatId) ∉ meeting.floors[(0 : SectionId)].holders ∧ settled meeting 0) := by
  unfold chairKeys keyTo inSession hasEntry outlives noGrace settled; decide +kernel

/-- A holder made DELEGATE, with its microphone ON. -/
def formerChair : State :=
  let s := withHolders [0] chairOn
  { s with cfg := { s.cfg with seats := s.cfg.seats.set 0 SeatConfig.default } }

theorem witness_ChairKeys_release_of_a_delegate :
    KeyHeard formerChair 0 .priority ∧ formerChair.cfg.seats[(0 : SeatId)].role ≠ .chair ∧ roomOfSeat formerChair 0 = 0 ∧
      formerChair.floors[(0 : SectionId)].state = .priority ∧ (0 : SeatId) ∈ formerChair.floors[(0 : SectionId)].holders ∧
      (0 : SeatId) ∉ formerChair.floors[(0 : SectionId)].queue ∧ outlives formerChair 0 0 := by
  unfold outlives noGrace; refine ⟨⟨?_, ?_, ?_⟩, ?_, ?_, ?_, ?_, ?_, ?_⟩ <;> decide +kernel

/-- The meeting as a request meets it. -/
abbrev asked : State := afterApply meeting

/-- Taking the superframe's cell leaves a state a state of the part. -/
theorem taken_part (s : State) (h : PartOk s) : PartOk (markTaken s) where
  config := { h.config with }
  counts := { h.counts with }
  lines := fun l => ⟨(h.lines l).silent, (h.lines l).present, (h.lines l).retry, (h.lines l).identify⟩
  floors := { h.floors with }
  planner := { h.planner with }
  standby := { h.standby with }
  sessions := { h.sessions with }
  table := { h.table with }

theorem asked_part : PartOk asked := taken_part meeting meeting_part

theorem settled_asked : settled asked (roomOfSeat asked 1) := by unfold settled; decide +kernel

theorem witness_SeatOpenAdmits :
    (seatCheck asked 0 = none ∧ asked.cfg.seats[(0 : SeatId)].role = .chair ∧ asked.seats[(0 : SeatId)].mic = .off) ∧
      (seatCheck asked 3 = none ∧ asked.cfg.seats[(3 : SeatId)].role ≠ .chair ∧ asked.seats[(3 : SeatId)].mic = .off ∧
        admittedCount asked (roomOfSeat asked 3) + 1 = maxOpenOf asked (roomOfSeat asked 3)) ∧
      (seatCheck (afterApply (under (fullProfile .deny))) 2 = none ∧
        (afterApply (under (fullProfile .deny))).cfg.seats[(2 : SeatId)].role ≠ .chair ∧
        (afterApply (under (fullProfile .deny))).seats[(2 : SeatId)].mic = .waiting ∧
        maxOpenOf (afterApply (under (fullProfile .deny))) 0 = admittedCount (afterApply (under (fullProfile .deny))) 0) ∧
      (seatCheck asked 1 = none ∧ asked.seats[(1 : SeatId)].mic = .on) ∧ settled asked (roomOfSeat asked 1) := by
  refine ⟨?_, ?_, ?_, ?_, settled_asked⟩ <;> decide +kernel

theorem witness_SeatCloseAndDequeue :
    (seatCheck asked 1 = none ∧ isOpenMic asked.seats[(1 : SeatId)].mic = true ∧ FloorOk asked) ∧
      (seatCheck asked 2 = none ∧ asked.seats[(2 : SeatId)].mic = .waiting) ∧
      (seatCheck asked 3 = none ∧ asked.seats[(3 : SeatId)].mic = .off) ∧ outlives asked 0 1 ∧
      settled asked (roomOfSeat asked 1) := by
  refine ⟨⟨?_, ?_, asked_part.floors⟩, ?_, ?_, by unfold outlives noGrace; decide +kernel, settled_asked⟩ <;> decide +kernel

def fullQueue : State := under { openProfile with queueCap := 1 }

theorem witness_SeatEnqueueJoinsTheTail :
    (seatCheck asked 3 = none ∧ floorProfile asked (roomOfSeat asked 3) = some openProfile ∧
        asked.cfg.seats[(3 : SeatId)].role ≠ .chair ∧ asked.seats[(3 : SeatId)].mic = .off ∧ openProfile.mode ≠ .voice ∧
        asked.floors[roomOfSeat asked 3].queue.length + 1 = openProfile.queueCap ∧ openProfile.autoAdvance = false) ∧
      (seatCheck asked 2 = none ∧ asked.cfg.seats[(2 : SeatId)].role ≠ .chair ∧ asked.seats[(2 : SeatId)].mic = .waiting ∧
        settled asked (roomOfSeat asked 2)) ∧
      (seatCheck asked 0 = none ∧ asked.cfg.seats[(0 : SeatId)].role = .chair) ∧
      (seatCheck (afterApply fullQueue) 3 = none ∧
        floorProfile (afterApply fullQueue) (roomOfSeat (afterApply fullQueue) 3) = some { openProfile with queueCap := 1 } ∧
        (afterApply fullQueue).floors[roomOfSeat (afterApply fullQueue) 3].queue.length = 1) := by
  refine ⟨?_, ⟨?_, ?_, ?_, settled_asked⟩, ?_, ?_⟩ <;> decide +kernel

theorem witness_FloorClear :
    (asked.standby.room = .active ∧ inSession asked.floors[(0 : SectionId)] ∧
        (∀ e ∈ asked.floors[(0 : SectionId)].openSet, isOpenMic asked.seats[e.seat].mic = true) ∧ noGrace asked) ∧
      (afterApply (inRoomState ⟨.waking, 0, some 5⟩)).standby.room ≠ .active ∧
      ((afterApply draining).standby.room = .active ∧ (afterApply draining).floors[(0 : SectionId)].state = .frozen) ∧
      asked.floors[(1 : SectionId)].state = .inactive := by
  unfold inSession noGrace; decide +kernel

/-- A speak limit of 300 s with a warning of 30 s, and a silence close after 255 s. -/
def timedProfile : Profile := { openProfile with speakLimit := 300, limitWarning := 30, silenceClose := 255 }

theorem witness_SpeakingLimits :
    (under timedProfile).seats[(1 : SeatId)].mic = .on ∧ (under timedProfile).cfg.seats[(1 : SeatId)].role ≠ .chair ∧
      floorProfile (under timedProfile) (roomOfSeat (under timedProfile) 1) = some timedProfile ∧
      (∀ r : SectionId, (1 : SeatId) ∉ (under timedProfile).floors[r].queue) ∧ timedProfile.speakLimit ≠ 0 ∧
      timedProfile.limitWarning ≠ 0 ∧ (under timedProfile).seats[(1 : SeatId)].limitWarning = false ∧
      silenceTime timedProfile ≠ 0 := by decide +kernel

/-- The room of the meeting in GRACE past its end, under the timed profile. Either seat 1 is the one open, with two turns missed and
seat 2 WAITING; or the chair is, as holder of a floor in PRIORITY that opened it. -/
def graceRoom (priority : Bool) : State :=
  let s := inGrace (under timedProfile)
  let t := modSeat 1 (fun x => { x with missCount := 2 }) s
  if priority = true then
    modSeat 0 (fun x => { x with mic := .on, gate := 256 }) (modSeat 1 (fun x => { x with mic := .off, gate := 0 })
      (modFloor 0 (fun f =>
        { f with state := .priority, openSet := [⟨0, 1, true⟩], holders := [0], speaker := some 0 }) t))
  else t

theorem graceRoom_config (b : Bool) : ConfigOk (graceRoom b) := by
  refine ⟨?_, ?_, ?_, ?_, ?_, ?_⟩
  · cases b <;> decide +kernel
  · intro n; constructor <;> revert n <;> cases b <;> decide +kernel
  · constructor <;> cases b <;> decide +kernel
  · cases b <;> decide +kernel
  · cases b <;> decide +kernel
  · cases b <;> exact fun _ h => absurd h (List.not_mem_nil)

theorem graceRoom_seats (b : Bool) : ∀ i : SeatId, SeatOk (graceRoom b).seats[i] := by
  intro i; constructor <;> revert i <;> cases b <;> decide +kernel

/-- The booking of the GRACE session. -/
def graceBooking : Booking := { meetingBooking with state := .grace, duration := 40 }

theorem graceRoom_counts (b : Bool) : CountsOk (graceRoom b) := by
  constructor
  case seats => exact graceRoom_seats b
  case bookings =>
    have h : ∀ k : SlotId, ∀ x ∈ (graceRoom b).cal.slots[k], x = graceBooking := by cases b <;> decide +kernel
    intro k x hx
    rw [h k x hx]
    constructor <;> decide
  all_goals cases b <;> decide +kernel

theorem graceRoom_sessions (b : Bool) : SessionsOk (graceRoom b) := by
  constructor
  · cases b <;> decide +kernel
  · intro r h
    have hr : r = 0 := by revert r; unfold inSession; cases b <;> decide +kernel
    subst hr
    exact ⟨0, by cases b <;> decide +kernel, graceBooking, by cases b <;> decide +kernel, rfl, rfl, by cases b <;> decide +kernel⟩

theorem graceRoom_part (b : Bool) : PartOk (graceRoom b) where
  config := graceRoom_config b
  counts := graceRoom_counts b
  lines := by intro l; constructor <;> revert l <;> cases b <;> decide +kernel
  floors := by constructor <;> (try unfold inSession) <;> (try unfold risingTimes) <;> cases b <;> decide +kernel
  planner := by constructor <;> cases b <;> decide +kernel
  standby := by constructor <;> cases b <;> decide +kernel
  sessions := graceRoom_sessions b
  table := by constructor <;> cases b <;> decide +kernel

theorem graceRoom_grace (b : Bool) : InGrace (graceRoom b) 0 0 graceBooking := by
  constructor <;> cases b <;> decide +kernel

theorem graceRoom_hears :
    KeyHeard (graceRoom false) 1 .talk ∧ KeyHeard (graceRoom false) 0 .clear ∧ KeyHeard (graceRoom true) 0 .priority := by
  refine ⟨?_, ?_, ?_⟩ <;> constructor <;> decide +kernel

/-- TALK, CLEAR, a third missed turn, the speak limit, the silence time, and PRIORITY RELEASE. -/
theorem witness_GraceEnds :
    (∀ b, PartOk (graceRoom b) ∧ InGrace (graceRoom b) 0 0 graceBooking) ∧
      closesLast (graceRoom false) 0 (.key 1 .talk .press) ∧ closesLast (graceRoom false) 0 (.key 0 .clear .press) ∧
      closesLast (graceRoom true) 0 (.key 0 .priority .release) ∧ closesLast (graceRoom false) 0 (.missedTurn 1) ∧
      closesLast (graceRoom false) 0 (.limitReached 1) ∧ closesLast (graceRoom false) 0 (.silenceClose 1) := by
  refine ⟨fun b => ⟨graceRoom_part b, graceRoom_grace b⟩, ?_, ?_, ?_, ?_, ?_, ?_⟩
  · exact .inl ⟨1, .talk, rfl, graceRoom_hears.1, by decide +kernel, by decide +kernel,
      .inl ⟨.inl rfl, .inr (by decide +kernel)⟩⟩
  · exact .inr (.inl ⟨0, rfl, graceRoom_hears.2.1, by decide +kernel, by decide +kernel, by decide +kernel⟩)
  · refine .inr (.inr (.inl ⟨0, rfl, graceRoom_hears.2.2, by decide +kernel, by decide +kernel, ?_⟩))
    unfold hasEntry; decide +kernel
  · exact .inr (.inr (.inr (.inl ⟨1, rfl, by decide +kernel, by decide +kernel⟩)))
  · exact .inr (.inr (.inr (.inr ⟨1, timedProfile, by decide +kernel, by decide +kernel, by decide +kernel, by decide +kernel,
      .inl ⟨rfl, by decide⟩⟩)))
  · exact .inr (.inr (.inr (.inr ⟨1, timedProfile, by decide +kernel, by decide +kernel, by decide +kernel, by decide +kernel,
      .inr ⟨rfl, by decide⟩⟩)))

/-- SEAT CLOSE and FLOOR CLEAR. -/
theorem witness_GraceEnds_requests :
    PartOk (afterApply (graceRoom false)) ∧ InGrace (afterApply (graceRoom false)) 0 0 graceBooking ∧
      openSeats (afterApply (graceRoom false)) 0 = [1] ∧ seatCheck (afterApply (graceRoom false)) 1 = none :=
  ⟨taken_part (graceRoom false) (graceRoom_part false), { graceRoom_grace false with }, by decide +kernel, by decide +kernel⟩

/-- SESSION_ENDING: a session in GRACE, at a seat with no DENIED and no LIMIT_WARN. -/
theorem witness_SeatStateCells_ending :
    SessionsOk (graceRoom false) ∧ (graceRoom false).cal.slots[(0 : SlotId)] = some graceBooking ∧ graceBooking.state = .grace ∧
      (graceRoom false).seats[(1 : SeatId)].denied = none ∧ (graceRoom false).seats[(1 : SeatId)].limitWarning = false :=
  ⟨graceRoom_sessions false, by decide +kernel, rfl, by decide +kernel, by decide +kernel⟩

/-- Each refusal: WAKING, a FROZEN floor, a LISTENER, an ABSENT seat, a line not RUNNING, an INACTIVE floor, and a DELEGATE at a floor in
PRIORITY; a request that passes them; and the first numbers past a seat, a room and a slot. -/
theorem witness_RequestRefusals :
    (afterApply (inRoomState ⟨.waking, 0, some 5⟩)).standby.room ≠ .active ∧
      ((afterApply draining).standby.room = .active ∧ (afterApply draining).floors[(0 : SectionId)].state = .frozen) ∧
      (asked.standby.room = .active ∧ asked.floors[(0 : SectionId)].state ≠ .frozen) ∧
      ((afterApply (seat1Is .listener)).cfg.seats[(1 : SeatId)].role = .listener ∧ asked.seats[(4 : SeatId)].present = false ∧
        (afterApply (lineIn .enumerating)).lines[sectionOf 1].state ≠ .running ∧
        (afterApply quietRoom).floors[(0 : SectionId)].state = .inactive ∧
        (afterApply (withHolders [9] meeting)).floors[(0 : SectionId)].state = .priority ∧
        (afterApply (withHolders [9] meeting)).cfg.seats[(3 : SeatId)].role ≠ .chair) ∧
      (64 ≤ (64 : Octet).toNat ∧ 4 ≤ (4 : Octet).toNat ∧ 48 ≤ (48 : Octet).toNat) := by decide +kernel

/-! ## Witnesses: the mix -/

/-- The ways of staying ACTIVE: room time INVALID, the idle timer one frame short, nothing drains and nothing is in GRACE. -/
theorem witness_FrameComputation :
    (roomA.standby.room = .active ∧ roomA.cal.valid = false) ∧
      (meeting.standby.room = .active ∧ meeting.standby.idle < idleDelayFrames meeting ∧ meeting.planner.state = .idle ∧
        noGrace meeting ∧ (after (exec .frameComputation meeting)).standby.room = .active) ∧
      (inRoomState ⟨.standby, 0, none⟩).standby.room ≠ .active := by
  unfold noGrace; decide +kernel

/-- The meeting with seat 1 at a gate. -/
def gateAt (mic : MicState) (gate : Nat) : State := modSeat 1 (fun x => { x with mic := mic, gate := gate }) meeting

theorem witness_FrameComputation_gates :
    (meeting.standby.room = .active ∧ meeting.planner.state = .idle ∧ noGrace (gateAt .opening 255) ∧
        isLive (gateAt .opening 255) 1 = true ∧ ∀ r : SectionId, (1 : SeatId) ∉ (gateAt .opening 255).floors[r].queue) ∧
      ((gateAt .opening 254).seats[(1 : SeatId)].mic = .opening ∧ (gateAt .opening 254).seats[(1 : SeatId)].gate < 255 ∧
        255 ≤ (gateAt .opening 255).seats[(1 : SeatId)].gate ∧ (gateAt .opening 255).seats[(1 : SeatId)].speakSecs = 0 ∧
        (gateAt .opening 255).seats[(1 : SeatId)].silence = 0) ∧
      ((gateAt .closing 2).seats[(1 : SeatId)].mic = .closing ∧ 1 < (gateAt .closing 2).seats[(1 : SeatId)].gate ∧
        (gateAt .closing 1).seats[(1 : SeatId)].gate ≤ 1) := by
  unfold noGrace; decide +kernel

/-- The meeting with these part-seconds of seat 1, and its envelope, ON or SUSPENDED. -/
def counting (part env : Nat) (mic : MicState) : State :=
  modSeat 1 (fun x => { x with mic := mic, speakPart := part, silencePart := part, env := env, speakSecs := 65535 }) meeting

/-- A seat in ON below the end of a second and at it, quiet and loud; a chair in ON; and a seat SUSPENDED. -/
theorem witness_FrameComputation_counts :
    (isLive (counting 15999 0 .on) 1 = true ∧ (∀ r : SectionId, (1 : SeatId) ∉ (counting 15999 0 .on).floors[r].queue) ∧
        (counting 15999 0 .on).planner.state = .idle ∧ noGrace (counting 15999 0 .on)) ∧
      ((counting 15998 0 .on).seats[(1 : SeatId)].speakPart + 1 < 16000 ∧
        16000 ≤ (counting 15999 0 .on).seats[(1 : SeatId)].speakPart + 1 ∧
        floorProfile (counting 15999 0 .on) 0 = some openProfile ∧ (counting 15999 0 .on).cfg.seats[(1 : SeatId)].role ≠ .chair ∧
        ¬ openProfile.silenceThreshold ≤ nextEnvelope 0 (s1Of (counting 15999 0 .on) 1) ∧
        openProfile.silenceThreshold ≤ nextEnvelope 30000 (s1Of (counting 15999 30000 .on) 1)) ∧
      (chairOn.seats[(0 : SeatId)].mic = .on ∧ chairOn.cfg.seats[(0 : SeatId)].role = .chair ∧ isLive chairOn 0 = true) ∧
      (counting 15999 0 .suspended).seats[(1 : SeatId)].mic = .suspended := by
  unfold noGrace; decide +kernel

/-- VOICE mode with this max open; seat 3 OFF and loud, and nobody WAITING. -/
def spoken (maxOpen : Nat) : State :=
  let s := under { openProfile with mode := .voice, maxOpen := maxOpen }
  modLine 0 (fun u => { u with mic := u.mic.set 3 20000 })
    (modSeat 2 (fun x => { x with mic := .off }) (modFloor 0 (fun f => { f with queue := [] }) s))

theorem spoken_floors : FloorOk (spoken 2) := by
  constructor <;> (try unfold inSession) <;> (try unfold risingTimes) <;> decide +kernel

theorem spoken_full_floors : FloorOk (spoken 1) := by
  constructor <;> (try unfold inSession) <;> (try unfold risingTimes) <;> decide +kernel

/-- A place for the seat whose voice crosses the threshold, and none. -/
theorem witness_FrameComputation_voice :
    FloorOk (spoken 2) ∧ FloorOk (spoken 1) ∧
      (isLive (spoken 2) 3 = true ∧ floorProfile (spoken 2) 0 = some { openProfile with mode := .voice, maxOpen := 2 } ∧
        (spoken 2).floors[(0 : SectionId)].state = .normal ∧ (spoken 2).floors[(0 : SectionId)].queue = [] ∧
        crossesTalk (spoken 2) { openProfile with mode := .voice, maxOpen := 2 } 3 = true) ∧
      admittedCount (spoken 2) 0 +
          (crossingBelow (spoken 2) 0 { openProfile with mode := .voice, maxOpen := 2 } 3).length + 1 = 2 ∧
      (crossesTalk (spoken 1) { openProfile with mode := .voice, maxOpen := 1 } 3 = true ∧
        1 ≤ admittedCount (spoken 1) 0) := by
  refine ⟨spoken_floors, spoken_full_floors, ?_, ?_, ?_⟩ <;> decide +kernel

theorem witness_MixArithmetic :
    (0 : Int) < 4096 ∧ (256 : Nat) ≤ 256 ∧ (32767 : Nat) ≤ 32767 ∧ (14000 : Nat) < min (-32768 : Int).natAbs 32767 ∧
      (8192 : Nat) ≤ 8192 := by decide

/-! ## Witnesses: plans and the calendar -/

theorem witness_PlansAndIntervals :
    Plan.allOpen ≠ ⟨.closed, .opened, .opened⟩ ∧ (10079 : Nat) < 10080 ∧
      (Interval.span 10070 60).meets (.span 20 5) = true := by decide

/-- A closing seat holds the drain; a room whose gates stand at 0 does not. -/
theorem witness_DividerReport :
    planOf 1 0 0 = some ⟨.closed, .opened, .opened⟩ ∧ (afterApply draining).planner.state = .draining ∧
      planOf 0 0 0 = some asked.planner.active ∧
      (asked.planner.state = .idle ∧ (⟨.closed, .opened, .opened⟩ : Plan) ≠ asked.planner.active ∧
        asked.planner.pendingPlan = none ∧
        ∃ i : SeatId, isAffected asked.planner.active ⟨.closed, .opened, .opened⟩ (sectionOf i) = true ∧ asked.seats[i].gate ≠ 0) ∧
      ((afterApply quietRoom).planner.state = .idle ∧
        ∀ i : SeatId, isAffected (afterApply quietRoom).planner.active ⟨.closed, .opened, .opened⟩ (sectionOf i) = true →
          (afterApply quietRoom).seats[i].gate = 0) ∧
      1 < (2 : Octet).toNat := by decide +kernel

theorem witness_Rebuild :
    draining.planner.state = .draining ∧ draining.planner.target = some ⟨.closed, .opened, .opened⟩ ∧
      draining.planner.pendingPlan = none ∧
      (∀ i : SeatId, draining.planner.affected[sectionOf i] = true → draining.seats[i].gate = 0) ∧
      draining.planner.affected[sectionOf 63] = true := by decide +kernel

/-- The drain with a session whose interval is over, and with one whose range is no room of the new plan. -/
def drainingWith (b : Booking) : State := modSlot 0 (some b) draining

theorem witness_Rebuild_sessions :
    draining.standby.room = .active ∧
      (∀ i : SeatId, draining.planner.affected[sectionOf i] = true → draining.seats[i].latch = none) ∧
      (draining.cal.slots[(0 : SlotId)] = some meetingBooking ∧ isSession meetingBooking.state = true ∧
        isHeld draining meetingBooking = true ∧ (intervalOf meetingBooking).has draining.cal.minute = true ∧
        rangeIsRoom ⟨.closed, .opened, .opened⟩ meetingBooking = false ∧
        rangeIsRoom ⟨.closed, .opened, .opened⟩ { meetingBooking with first := 1 } = true) ∧
      ((drainingWith { meetingBooking with duration := 40 }).cal.valid = true ∧
        isHeld (drainingWith { meetingBooking with duration := 40 }) { meetingBooking with duration := 40 } = true ∧
        (intervalOf { meetingBooking with duration := 40 }).has
          (drainingWith { meetingBooking with duration := 40 }).cal.minute = false) := by decide +kernel

theorem witness_RoomTime :
    meeting.cal.valid = true ∧ State.reset.cal.valid = false ∧ (10079 : Half).toNat ≤ 10079 ∧ (59 : Octet).toNat ≤ 59 ∧
      10079 < (10080 : Half).toNat ∧ 59 < (60 : Octet).toNat := by decide

/-- A booking of slot 1 in a state, from a minute on. -/
def bookedFrom (x : BookingState) (start : Nat) : Booking := ⟨x, start, 30, 0, 3, 0, .weekly, .scheduled, 9, 0⟩

/-- At minute 101: a booking in and one before its lead-in window of 10 minutes, one whose start it is, one PENDING in and one past its
interval; the session of the meeting; one held; and one past its end with a grace window of 5 minutes, in a room with microphones
open. -/
theorem witness_RoomTime_evaluation :
    (meeting.cal.minute + 1) % 10080 = 101 ∧
      ((bookedFrom .scheduled 111).start ≠ 101 ∧ leadInHas meeting (bookedFrom .scheduled 111) 101 = true ∧
        leadInHas meeting (bookedFrom .leadIn 112) 101 = false) ∧
      ((bookedFrom .leadIn 101).start = 101 ∧ (intervalOf (bookedFrom .pending 72)).has 101 = true ∧
        (intervalOf (bookedFrom .pending 71)).has 101 = false) ∧
      (rangeIsRoom meeting.planner.active (bookedFrom .leadIn 101) = true ∧ isHeld meeting (bookedFrom .leadIn 101) = false) ∧
      ((intervalOf meetingBooking).has 101 = true ∧ isHeld meeting meetingBooking = false ∧
        isHeld draining meetingBooking = true) ∧
      ((∀ j : SlotId, j ≠ 0 → ∀ c ∈ meeting.cal.slots[j], c.state = .scheduled ∨ c.state = .leadIn) ∧
        (intervalOf { meetingBooking with duration := 41 }).has 101 = false ∧
        meeting.floors[(0 : SectionId)].openSet ≠ [] ∧ graceHas meeting 0 { meetingBooking with duration := 41 } 101 = true ∧
        graceHas meeting 0 { meetingBooking with duration := 36 } 101 = false) := by decide +kernel

/-- The drain with a pending plan, and seat 60 of section D with this gate. -/
def replanning (q : Plan) (gate : Nat) : State :=
  modSeat 60 (fun x => { x with gate := gate }) (modPlanner (fun p => { p with pendingPlan := some q, affected :=
    #v[true, true, false, false] }) draining)

/-- A pending plan equal to the target; one whose sections are silent; one with a gate open in section D, which the first replan left
alone. -/
theorem witness_Rebuild_pending :
    (∀ q gate, (replanning q gate).planner.state = .draining ∧
      (replanning q gate).planner.target = some ⟨.closed, .opened, .opened⟩ ∧ (replanning q gate).planner.pendingPlan = some q) ∧
      (∀ i : SeatId, (replanning ⟨.closed, .opened, .closed⟩ 9).planner.affected[sectionOf i] = true →
        (replanning ⟨.closed, .opened, .closed⟩ 9).seats[i].gate = 0) ∧
      (∀ i : SeatId, isAffected ⟨.closed, .opened, .opened⟩ ⟨.closed, .opened, .closed⟩ (sectionOf i) = true →
        (replanning ⟨.closed, .opened, .closed⟩ 0).seats[i].gate = 0) ∧
      (isAffected ⟨.closed, .opened, .opened⟩ ⟨.closed, .opened, .closed⟩ (sectionOf 60) = true ∧
        (replanning ⟨.closed, .opened, .closed⟩ 9).seats[(60 : SeatId)].gate ≠ 0) :=
  ⟨fun _ _ => ⟨rfl, rfl, rfl⟩, by decide +kernel, by decide +kernel, by decide +kernel⟩

/-- CLOCK SET from minute 100, or from no minute: a session jumped out of and one jumped within, one held, and an open-end one that takes
a length; a PENDING booking in its interval and past it; a booking jumped into, one within its interval before and after, one in its
lead-in window. -/
theorem witness_RoomTime_jump :
    (asked.cal.slots[(0 : SlotId)] = some meetingBooking ∧ lengthened asked 500 meetingBooking = meetingBooking ∧
        isSession meetingBooking.state = true ∧ isHeld asked meetingBooking = false ∧
        isHeld (afterApply draining) meetingBooking = true ∧ (intervalOf meetingBooking).has 500 = false ∧
        (intervalOf meetingBooking).has 179 = true) ∧
      (lengthened (modCal (fun c => { c with valid := false }) meeting) 500 { meetingBooking with duration := 0 } =
        { meetingBooking with start := 500, duration := meeting.cfg.room.adHocDuration }) ∧
      ((intervalOf (bookedFrom .pending 500)).has 500 = true ∧ (intervalOf (bookedFrom .pending 471)).has 500 = true ∧
        (intervalOf (bookedFrom .pending 470)).has 500 = false) ∧
      (jumpedInto asked 500 (bookedFrom .scheduled 471) = true ∧ jumpedInto asked 101 (bookedFrom .scheduled 90) = false ∧
        jumpedInto asked 500 (bookedFrom .scheduled 501) = false ∧ leadInHas asked (bookedFrom .scheduled 501) 500 = true) := by
  decide +kernel

/-- A request for a weekly booking of 60 minutes on sections A to D from a minute on. -/
def bookingRequest (start : Half) : BookingParams := ⟨start, 60, 0, 3, 7, 1, 5⟩

theorem bookingRequest_names (start : Half) (h : start.toNat ≤ 10079) : Names (bookingRequest start) 0 3 7 .weekly :=
  ⟨h, rfl, rfl, by decide, rfl, rfl⟩

/-- What BOOK ADD asks of a table for a request from a minute on. -/
def mayBook (u : State) (start : Half) : Prop :=
  u.cal.valid = true ∧ conflicts u 0 3 (.span start.toNat (limitedTo (bookingRequest start))) none = false ∧ emptySlot u = some 0

/-- In the quiet room at minute 100: a booking from minute 41 to 101 starts in ENDING; one from 110 is in its lead-in window of 10 minutes, and one
from 111 is not; in STANDBY the first is PENDING. -/
theorem witness_BookAddPlacesTheBooking :
    (∀ start : Half, start.toNat ≤ 10079 → Names (bookingRequest start) 0 3 7 .weekly) ∧
      (mayBook (afterApply quietRoom) 41 ∧ placedState (afterApply quietRoom) ⟨.scheduled, 41, 60, 0, 3, 7, .weekly, .scheduled, 5, 0⟩ =
        .ending) ∧
      (mayBook (afterApply quietRoom) 110 ∧
        placedState (afterApply quietRoom) ⟨.scheduled, 110, 60, 0, 3, 7, .weekly, .scheduled, 5, 0⟩ = .leadIn) ∧
      (mayBook (afterApply quietRoom) 111 ∧
        placedState (afterApply quietRoom) ⟨.scheduled, 111, 60, 0, 3, 7, .weekly, .scheduled, 5, 0⟩ = .scheduled) ∧
      (mayBook (afterApply (modStandby (fun _ => ⟨.standby, 0, none⟩) quietRoom)) 41 ∧
        placedState (afterApply (modStandby (fun _ => ⟨.standby, 0, none⟩) quietRoom))
          ⟨.scheduled, 41, 60, 0, 3, 7, .weekly, .scheduled, 5, 0⟩ = .pending) := by
  unfold mayBook; refine ⟨bookingRequest_names, ?_, ?_, ?_, ?_⟩ <;> decide +kernel

/-- Room A with its seats and nobody in session, room time as given. -/
def adHocRoom (valid : Bool) : State :=
  { meeting with
    seats := (modSeat 1 (fun _ => micSeat .off 0 0) (modSeat 2 (fun _ => micSeat .off 0 0) meeting)).seats
    floors := State.reset.floors
    cal := { Calendar.powerOn with
      valid := valid
      minute := if valid = true then 100 else 0 } }

theorem adHocRoom_config (valid : Bool) : ConfigOk (adHocRoom valid) :=
  ⟨meeting_config.seats, meeting_config.profiles, meeting_config.room, meeting_config.sections, meeting_config.programs,
    fun _ h => absurd h (List.not_mem_nil)⟩

theorem adHocRoom_seats (valid : Bool) : ∀ i : SeatId, SeatOk (adHocRoom valid).seats[i] := by
  intro i; constructor <;> revert i <;> cases valid <;> decide +kernel

theorem adHocRoom_counts (valid : Bool) : CountsOk (adHocRoom valid) := by
  constructor
  case seats => exact adHocRoom_seats valid
  case bookings =>
    have h : ∀ k : SlotId, ∀ b ∈ (adHocRoom valid).cal.slots[k], False := by cases valid <;> decide +kernel
    intro k b hb
    exact (h k b hb).elim
  all_goals cases valid <;> decide +kernel

theorem adHocRoom_lines (valid : Bool) : LinesOk (adHocRoom valid) := by
  intro l; constructor <;> revert l <;> cases valid <;> decide +kernel

theorem adHocRoom_floors (valid : Bool) : FloorOk (adHocRoom valid) := by
  constructor <;> (try unfold inSession) <;> (try unfold risingTimes) <;> cases valid <;> decide +kernel

theorem adHocRoom_sessions (valid : Bool) : SessionsOk (adHocRoom valid) := by
  constructor
  · cases valid <;> decide +kernel
  · have h : ∀ r : SectionId, ¬ inSession (adHocRoom valid).floors[r] := by
      unfold inSession; cases valid <;> decide +kernel
    exact fun r hr => (h r hr).elim

theorem adHocRoom_part (valid : Bool) : PartOk (adHocRoom valid) where
  config := adHocRoom_config valid
  counts := adHocRoom_counts valid
  lines := adHocRoom_lines valid
  floors := adHocRoom_floors valid
  planner := by constructor <;> cases valid <;> decide +kernel
  standby := by constructor <;> cases valid <;> decide +kernel
  sessions := adHocRoom_sessions valid
  table := by constructor <;> cases valid <;> decide +kernel

/-- The clauses' premises on the seat and its room. -/
def asksForRoom (s : State) : Prop :=
  keyTo s 3 .delegate ∧ s.seats[(3 : SeatId)].mic = .off ∧ roomInSession s 0 = false ∧ roomPending s 0 = false ∧
    lastOf s.planner.active 0 = 3

/-- An ad hoc session of 60 minutes, one cut at a booking 15 minutes away, and one without room time. -/
theorem witness_BookAddPlacesTheBooking_adHoc :
    (asksForRoom (adHocRoom true) ∧ PartOk (adHocRoom true) ∧ (adHocRoom true).cfg.room.adHocProfile = some 0 ∧
        emptySlot (adHocRoom true) = some 0 ∧ occupiedNow (adHocRoom true) 0 3 = false ∧
        firstConflictAfter (adHocRoom true) 100 0 3 none = none) ∧
      (occupiedNow (modSlot 1 (some (bookedFrom .scheduled 115)) (adHocRoom true)) 0 3 = false ∧
        firstConflictAfter (modSlot 1 (some (bookedFrom .scheduled 115)) (adHocRoom true)) 100 0 3 none =
          some (1, bookedFrom .scheduled 115) ∧ distance 100 115 = 15) ∧
      (asksForRoom (adHocRoom false) ∧ PartOk (adHocRoom false) ∧ rangeTaken (adHocRoom false) 0 3 = false) := by
  unfold asksForRoom keyTo
  refine ⟨⟨?_, adHocRoom_part true, ?_⟩, ?_, ?_, adHocRoom_part false, ?_⟩ <;> decide +kernel

/-- No ad hoc session: no profile for it, no slot, a booking 14 minutes away, one on the room without room time. -/
theorem witness_BookAddPlacesTheBooking_denied :
    asksForRoom (adHocRoom true) ∧
      { (adHocRoom true).cfg.room with adHocProfile := none }.adHocProfile = none ∧
      emptySlot { meeting with cal := { meeting.cal with slots := Vector.replicate 48 (some meetingBooking) } } = none ∧
      (∃ x ∈ firstConflictAfter (modSlot 1 (some (bookedFrom .scheduled 114)) (adHocRoom true)) 100 0 3 none,
        distance 100 x.2.start < 15) ∧
      rangeTaken (modSlot 1 (some { bookedFrom .scheduled 0 with duration := 0 }) (adHocRoom false)) 0 3 = true := by
  unfold asksForRoom keyTo
  refine ⟨?_, rfl, ?_, ?_, ?_⟩
  · decide +kernel
  · decide +kernel
  · exact ⟨(1, bookedFrom .scheduled 114), by decide +kernel, by decide⟩
  · decide +kernel

/-- The booking that BOOK CHANGE, BOOK CANCEL and BOOK END have in slot 1. -/
def laterBooking (x : BookingState) : Booking := ⟨x, 300, 60, 0, 3, 0, .weekly, .scheduled, 9, 15⟩

abbrev alsoAsked (x : BookingState) : State := afterApply (alsoBooked (laterBooking x))

theorem witness_BookChangeReplacesTheFields :
    Names (bookingRequest 200) 0 3 7 .weekly ∧ (alsoAsked .scheduled).cal.valid = true ∧
      (alsoAsked .scheduled).cal.slots[(1 : SlotId)] = some (laterBooking .scheduled) ∧
      isLocked (alsoAsked .scheduled) (laterBooking .scheduled) = false ∧
      conflicts (alsoAsked .scheduled) 0 3 (.span 200 (limitedTo (bookingRequest 200) + 15)) (some 1) = false := by
  refine ⟨bookingRequest_names 200 (by decide), ?_, ?_, ?_, ?_⟩ <;> decide +kernel

theorem witness_BookCancelAndEnd :
    ((alsoAsked .scheduled).cal.slots[(1 : SlotId)] = some (laterBooking .scheduled) ∧
        isLocked (alsoAsked .scheduled) (laterBooking .scheduled) = false) ∧
      (asked.cal.slots[(0 : SlotId)] = some meetingBooking ∧ isLocked asked meetingBooking = true) := by decide +kernel

theorem witness_BookExtendAddsFifteen :
    asked.cal.slots[(0 : SlotId)] = some meetingBooking ∧ isSession meetingBooking.state = true ∧ meetingBooking.duration ≠ 0 ∧
      isHeld asked meetingBooking = false ∧
      meetingBooking.extension + 15 ≤ asked.cfg.profiles[meetingBooking.profile].extensionLimit ∧
      conflicts asked meetingBooking.first meetingBooking.last (.span 60 (120 + 0 + 15)) (some 0) = false ∧
      (Interval.span 60 (120 + 0 + 15)).has asked.cal.minute = true := by decide +kernel

theorem witness_BookCancelAndEnd_end :
    (asked.cal.slots[(0 : SlotId)] = some meetingBooking ∧ meetingBooking.state ≠ .scheduled ∧ meetingBooking.state ≠ .leadIn ∧
        meetingBooking.recurrence = .once ∧ isSession meetingBooking.state = true) ∧
      ((alsoAsked .pending).cal.slots[(1 : SlotId)] = some (laterBooking .pending) ∧
        (laterBooking .pending).recurrence = .weekly) ∧
      (alsoAsked .leadIn).cal.slots[(1 : SlotId)] = some (laterBooking .leadIn) := by decide +kernel

/-- The refusals that need room time: none, a field that names nothing, a booking in the way, no empty slot; an empty slot; a slot past
SCHEDULED. -/
theorem witness_BookingRefusals :
    (afterApply State.reset).cal.valid = false ∧ misnames { bookingRequest 200 with recurrence := 2 } ∧
      misnames (bookingRequest 10080) ∧
      (Names (bookingRequest 120) 0 3 7 .weekly ∧ conflicts asked 0 3 (.span 120 (limitedTo (bookingRequest 120))) none = true) ∧
      (conflicts (afterApply { meeting with cal := { meeting.cal with slots := Vector.replicate 48 (some meetingBooking) } }) 0 3
          (.span 200 (limitedTo (bookingRequest 200))) none = false ∧
        emptySlot (afterApply { meeting with cal := { meeting.cal with slots := Vector.replicate 48 (some meetingBooking) } }) = none) ∧
      asked.cal.slots[(47 : SlotId)] = none ∧ meetingBooking.state ≠ .scheduled ∧
      conflicts (alsoAsked .scheduled) 0 3 (.span 120 (limitedTo (bookingRequest 120) + 15)) (some 1) = true := by
  unfold misnames
  refine ⟨?_, ?_, ?_, ⟨bookingRequest_names 120 (by decide), ?_⟩, ?_, ?_, ?_, ?_⟩ <;> decide +kernel

/-- BOOK EXTEND refused: no session, an open-end one, one held, the limit, a booking in the way. -/
theorem witness_BookingRefusals_extend :
    isSession (laterBooking .pending).state = false ∧ { meetingBooking with duration := 0 }.duration = 0 ∧
      isHeld (afterApply draining) meetingBooking = true ∧
      asked.cfg.profiles[meetingBooking.profile].extensionLimit < 60 + 15 ∧
      (conflicts (afterApply (alsoBooked (bookedFrom .scheduled 194))) 0 3 (.span 60 (120 + 0 + 15)) (some 0) = true ∧
        isHeld (afterApply (alsoBooked (bookedFrom .scheduled 194))) meetingBooking = false) := by decide +kernel

/-- The chair's EXTEND: with room for 15 minutes, of an open-end session, at the limit, against a booking, and with no session. -/
theorem witness_BookExtendAddsFifteen_key :
    KeyHeard meeting 0 .extend ∧ meeting.cfg.seats[(0 : SeatId)].role = .chair ∧ roomOfSeat meeting 0 = 0 ∧
      (sessionSlot meeting 0 = some 0 ∧ meeting.cal.slots[(0 : SlotId)] = some meetingBooking ∧
        isHeld meeting meetingBooking = false ∧ conflicts meeting 0 3 (.span 60 (120 + 0 + 15)) (some 0) = false ∧
        (Interval.span 60 (120 + 0 + 15)).has meeting.cal.minute = true) ∧
      (sessionSlot (modSlot 0 (some { meetingBooking with duration := 0 }) meeting) 0 = some 0 ∧
        meeting.cfg.profiles[meetingBooking.profile].extensionLimit < 60 + 15 ∧
        conflicts (alsoBooked (bookedFrom .scheduled 194)) 0 3 (.span 60 (120 + 0 + 15)) (some 0) = true) ∧
      sessionSlot quietRoom 0 = none := by
  refine ⟨⟨?_, ?_, ?_⟩, ?_, ?_, ?_, ?_, ?_⟩ <;> decide +kernel

/-- The chair's END, with and without a session. -/
theorem witness_BookCancelAndEnd_key :
    KeyHeard meeting 0 .endSession ∧ meeting.cfg.seats[(0 : SeatId)].role = .chair ∧
      sessionSlot meeting (roomOfSeat meeting 0) = some 0 ∧ meeting.cal.slots[(0 : SlotId)] = some meetingBooking ∧
      KeyHeard (adHocRoom true) 0 .endSession ∧ sessionSlot (adHocRoom true) (roomOfSeat (adHocRoom true) 0) = none := by
  refine ⟨⟨?_, ?_, ?_⟩, ?_, ?_, ?_, ⟨?_, ?_, ?_⟩, ?_⟩ <;> decide +kernel

/-! ## Witnesses: standby, screens and cameras -/

theorem witness_RoomEntersStandby :
    quietRoom.standby.room = .active ∧ (∀ i : SeatId, quietRoom.seats[i].mic = .off) ∧ quietRoom.cal.valid = true ∧
      tableQuiet quietRoom = true ∧ quietRoom.planner.state = .idle ∧
      (∀ k : SlotId, ∀ b ∈ quietRoom.cal.slots[k], leadInHas quietRoom b quietRoom.cal.minute = false) := by decide +kernel

theorem witness_Wakes :
    (afterApply (inRoomState ⟨.standby, 0, none⟩)).standby.room = .standby ∧ asked.standby.room ≠ .standby ∧
      (afterApply (inRoomState ⟨.waking, 0, some 5⟩)).standby.room ≠ .standby := by decide

theorem witness_Wakes_end :
    (inRoomState ⟨.waking, 0, some 31999⟩).standby.wake.isSome = true ∧
      1 ≤ (inRoomState ⟨.waking, 0, some 31999⟩).cfg.room.idleDelay ∧
      (inRoomState ⟨.waking, 0, some 31999⟩).seats[(1 : SeatId)].latchEnable = false := by decide +kernel

/-- The meeting with one directive in flight and nothing queued. -/
def inFlightOnly (d : Directive) : State := modVideo (fun v => { v with queue := [], inFlight := [⟨d, 100⟩] }) meeting

theorem witness_DoneUpdatesTheTarget :
    flightFor (inFlightOnly (.recall 7 127)).video (.camera 7) = some ⟨.recall 7 127, 100⟩ ∧
      flightFor (inFlightOnly (.display 0 (.camera 2))).video (.screen 0) = some ⟨.display 0 (.camera 2), 100⟩ ∧
      flightFor meeting.video (.screen 0) = some ⟨.power 0 true, 0⟩ ∧
      flightFor (inFlightOnly (.power 7 false)).video (.screen 7) = some ⟨.power 7 false, 100⟩ := by decide

/-- RECALL of camera 7 in flight in room A, this shot awaited, and this overview. -/
def recalling (awaited : Option Shot) (overview : Option CameraId) : State :=
  let s := modFollow 0 (fun f => { f with awaited := awaited }) (inFlightOnly (.recall 7 127))
  { s with cfg := { s.cfg with
    cameraHome := Vector.replicate 8 0
    sections := s.cfg.sections.set 0 { s.cfg.sections[0] with overviewCamera := overview, overviewPreset := 4 } } }

/-- The shot awaited, and another one. -/
theorem witness_DoneUpdatesTheTarget_awaited :
    roomOfCamera (recalling none none) 7 = 0 ∧
      ((recalling (some ⟨7, 127⟩) none).video.follow[(0 : SectionId)].state = .following ∧
        (recalling (some ⟨7, 127⟩) none).video.follow[(0 : SectionId)].awaited = some ⟨7, 127⟩) ∧
      (recalling (some ⟨7, 126⟩) none).video.follow[(0 : SectionId)].awaited ≠ some ⟨7, 127⟩ := by decide +kernel

/-- R177: the awaited shot is shown, and its dwell deadline starts. R178: the fallback recalls the overview. -/
theorem test_awaited_shot :
    (after (exec (.done (.camera 7)) (recalling (some ⟨7, 127⟩) none))).video.follow[0].shown = some ⟨7, 127⟩ ∧
      (after (exec (.fail (.camera 7)) (recalling (some ⟨7, 127⟩) (some 2)))).video.follow[0].awaited = some ⟨2, 4⟩ := by
  decide +kernel

/-- A media queue with RECALL and SHOW waiting, and this much in flight. -/
def media (inFlight : List InFlight) : Video :=
  { Video.powerOn with
    queue := [.recall 1 4, .display 2 .blank, .recall 3 9]
    inFlight := inFlight }

/-- An equal directive in flight; one for camera 3 waiting, behind two others; nothing for camera 5; and what is sent: the second of
the queue while camera 1 moves, and nothing with four in flight or with all targets busy. -/
theorem witness_DoneUpdatesTheTarget_queue :
    flightFor (media [⟨.recall 3 7, 5⟩]) (.camera 3) = some ⟨.recall 3 7, 5⟩ ∧
      ((media []).queue = [.recall 1 4, .display 2 .blank] ++ .recall 3 9 :: [] ∧
        targetOfDirective (.recall 3 9) = targetOfDirective (.recall 3 7) ∧
        (∀ x ∈ ([.recall 1 4, .display 2 .blank] ++ [] : List Directive), targetOfDirective x ≠ targetOfDirective (.recall 3 7)) ∧
        flightFor (media []) (.camera 3) = none) ∧
      (∀ x ∈ (media []).queue, targetOfDirective x ≠ targetOfDirective (.recall 5 0)) ∧
      ((media [⟨.recall 1 2, 5⟩]).inFlight.length < 4 ∧
        (media [⟨.recall 1 2, 5⟩]).queue = [.recall 1 4] ++ .display 2 .blank :: [.recall 3 9] ∧
        flightFor (media [⟨.recall 1 2, 5⟩]) (.screen 2) = none ∧
        ∀ x ∈ [Directive.recall 1 4], (flightFor (media [⟨.recall 1 2, 5⟩]) (targetOfDirective x)).isSome = true) ∧
      4 ≤ Video.powerOn.inFlight.length ∧
      (∀ x ∈ (media [⟨.recall 1 2, 0⟩, ⟨.recall 3 2, 0⟩, ⟨.power 2 true, 0⟩]).queue,
        (flightFor (media [⟨.recall 1 2, 0⟩, ⟨.recall 3 2, 0⟩, ⟨.power 2 true, 0⟩]) (targetOfDirective x)).isSome = true) := by
  decide +kernel

theorem witness_FailuresAndStrayMessages :
    (flightFor meeting.video (.screen 3)).isSome = true ∧
      (flightFor (inFlightOnly (.recall 7 127)).video (.camera 7)).isSome = true ∧
      flightFor meeting.video (.camera 0) = none ∧ decodeMediaReply (Vector.replicate 8 0) = none := by decide

/-- The fallback to another overview shot; the overview shot itself failed; no overview shot; a shot not awaited. -/
theorem witness_FailuresAndStrayMessages_recall :
    (flightFor (recalling (some ⟨7, 127⟩) (some 2)).video (.camera 7) = some ⟨.recall 7 127, 100⟩ ∧
        overviewShot (landed (.camera 7) (recalling (some ⟨7, 127⟩) (some 2))) 0 = some ⟨2, 4⟩) ∧
      overviewShot (landed (.camera 7) (recalling (some ⟨7, 4⟩) (some 7))) 0 = some ⟨7, 4⟩ ∧
      overviewShot (landed (.camera 7) (recalling (some ⟨7, 127⟩) none)) 0 = none ∧
      (recalling none (some 2)).video.follow[(0 : SectionId)].awaited = none := by decide +kernel

/-- Seat 1, on camera 2 with preset 5, is the candidate; the camera stands there. -/
def dwelling (pending : Bool) : State :=
  let s := following { Follow.idle with candidate := some 1, dwell := some 1, pendingFlag := pending }
  modCamera 2 (fun _ => ⟨some 5, false⟩)
    { s with cfg := { s.cfg with seats := s.cfg.seats.set 1 { SeatConfig.default with camera := some 2, preset := 5 } } }

theorem witness_DwellExpires :
    (dwelling false).video.follow[(0 : SectionId)].dwell.isSome = true ∧
      (dwelling false).video.follow[(0 : SectionId)].pendingFlag = false ∧
      (dwelling true).video.follow[(0 : SectionId)].dwell.isSome = true ∧
      (dwelling true).video.follow[(0 : SectionId)].pendingFlag = true ∧
      (dwelling true).video.follow[(0 : SectionId)].state = .following ∧ candidateShot (dwelling true) 0 = some ⟨2, 5⟩ ∧
      cameraReady (dwelling true) 2 5 = true := by decide +kernel

/-- The clauses of acting: a camera that is not ready, no shot of the candidate's, and a screen of the room that follows. -/
theorem witness_DwellExpires_acting :
    cameraReady (modCamera 2 (fun _ => ⟨some 4, false⟩) (dwelling true)) 2 5 = false ∧
      candidateShot (modFollow 0 (fun f => { f with candidate := none }) (dwelling true)) 0 = none ∧
      overviewShot (recalling none (some 2)) 0 = some ⟨2, 4⟩ ∧ overviewShot (recalling none none) 0 = none ∧
      floorProfile (dwelling true) 0 = some openProfile ∧ openProfile.dwell ≠ 0 ∧
      (roomOfScreen (dwelling true) 0 = 0 ∧ roomInSession (dwelling true) 0 = true ∧
        (dwelling true).standby.room ≠ .standby ∧
        (modScreen 0 (fun _ => ⟨.blank, true, false⟩) (dwelling true)).video.screens[(0 : ScreenId)].power = true ∧
        powerQueued 0 (dwelling true).video = false) := by decide +kernel

theorem witness_FollowRequests :
    (followCheck asked 0 = none ∧ asked.video.follow[(0 : SectionId)].state = .following) ∧
      (followCheck (afterApply (following { Follow.idle with state := .held })) 0 = none ∧
        (afterApply (following { Follow.idle with state := .held })).video.follow[(0 : SectionId)].state = .held) ∧
      (afterApply (inRoomState ⟨.standby, 0, none⟩)).standby.room ≠ .active ∧
      ((afterApply draining).standby.room = .active ∧ (afterApply draining).floors[(0 : SectionId)].state = .frozen) ∧
      (asked.floors[(1 : SectionId)].state ≠ .frozen ∧ isRoom asked.planner.active 1 = false) ∧
      (roomInSession asked 0 = true ∧ followCheck (afterApply quietRoom) 0 = none ∧
        roomInSession (afterApply quietRoom) 0 = false) := by decide +kernel

/-- The meeting with a share input at the chair and at seat 1, screen 0 on, and this share active. -/
def sharing (x : Option (SeatId × Fin 8)) : State :=
  let s := following { Follow.idle with share := x.map fun p => ⟨p.1, p.2⟩ }
  modScreen 0 (fun _ => ⟨.blank, true, false⟩)
    { s with cfg := { s.cfg with
      screens := s.cfg.screens.set 0 { s.cfg.screens[0] with mode := .shareFollow }
      seats := (s.cfg.seats.set 1 { SeatConfig.default with share := some 3 }).set 0
        { SeatConfig.default with role := .chair, share := some 2 } } }

/-- The chair's share with this in the media queue: a POWER for screen 0 waits behind one in flight for it. -/
def powering : State := modVideo (fun v => { v with queue := [.power 0 true], inFlight := [⟨.display 0 .blank, 5⟩] }) (sharing none)

/-- R171: a POWER that waits is not replaced by a SHOW; the reconciliation at its DONE queues the SHOW. -/
theorem test_queued_power_stays :
    .power 0 true ∈ (after (exec (.key 0 .share .press) powering)).video.queue ∧
      .display 0 (.share 2) ∈ (after (exec (.done (.screen 0)) (after (exec (.done (.screen 0))
        (after (exec (.key 0 .share .press) powering)))))).video.queue := by decide +kernel

/-- The chair shares, over seat 1 and with screen 0 in SHARE_FOLLOW; it ends its share; seat 1 may not share, and seat 3 has no input. -/
theorem witness_FollowRequests_share :
    (KeyHeard (sharing none) 0 .share ∧ roomOfSeat (sharing none) 0 = 0 ∧ roomInSession (sharing none) 0 = true ∧
        floorProfile (sharing none) 0 = some openProfile ∧ openProfile.sharePermission = .chair ∧
        (sharing none).cfg.seats[(0 : SeatId)].role = .chair ∧ (sharing none).cfg.seats[(0 : SeatId)].share = some 2) ∧
      (roomOfScreen (sharing none) 0 = 0 ∧ (sharing none).cfg.screens[(0 : ScreenId)].mode = .shareFollow ∧
        (sharing none).video.screens[(0 : ScreenId)].power = true ∧
        (sharing none).video.screens[(0 : ScreenId)].current ≠ .share 2 ∧ powerQueued 0 (sharing none).video = false ∧
        .power 0 true ∈ powering.video.queue) ∧
      (sharing (some (0, 2))).video.follow[(0 : SectionId)].share = some ⟨0, 2⟩ ∧
      (sharing (some (1, 3))).video.follow[(0 : SectionId)].share = some ⟨1, 3⟩ ∧
      (KeyHeard (sharing none) 1 .share ∧ (sharing none).cfg.seats[(1 : SeatId)].role = .delegate ∧
        KeyHeard (sharing none) 3 .share ∧ (sharing none).cfg.seats[(3 : SeatId)].share = none) := by
  refine ⟨⟨⟨?_, ?_, ?_⟩, ?_⟩, ?_, ?_, ?_, ⟨?_, ?_, ?_⟩, ?_, ⟨?_, ?_, ?_⟩, ?_⟩ <;> decide +kernel

/-! ## Witnesses: formats -/

/-- A DONE of screen 7 and a FAIL of camera 0 with octets 2 to 6 in use. -/
theorem witness_CheckOctets :
    (checkHolds (#v[0x81, 0x0F, 1, 2, 3, 4, 5, 0x61] : Vector Octet 8).toList = true ∧
        targetOf (0x0F : Octet).toNat = some (.screen 7)) ∧
      (checkHolds (#v[0x82, 0x00, 0xFF, 0, 0, 0, 0, 0x7F] : Vector Octet 8).toList = true ∧
        targetOf (0x00 : Octet).toNat = some (.camera 0)) ∧
      (checkHolds (Vector.replicate 8 (1 : Octet)).toList = false ∧ targetOf (0x10 : Octet).toNat = none) := by decide

/-- A HELLO of a chair unit and of kind 3, a PRIORITY PRESS, a key 9, an action 3, a QUIET and a kind 4; seven octets. -/
theorem witness_CheckOctets_replies :
    ([0, 0, 0, 0, 0] : List Octet).length = 5 ∧
      (checkHolds [1, 2, 0, 0, 0, 0, 0, 0xFD] = true ∧ seatKindOf (2 : Octet).toNat = some .chairUnit ∧
        seatKindOf (3 : Octet).toNat = none) ∧
      (checkHolds [2, 5, 1, 0, 0, 0, 0, 0xF8] = true ∧ keyOf (5 : Octet).toNat = some .priority ∧
        keyActionOf (1 : Octet).toNat = some .press ∧ keyOf (9 : Octet).toNat = none ∧ keyActionOf (3 : Octet).toNat = none) ∧
      (checkHolds [3, 0, 0, 0, 0, 0, 0, 0xFD] = true ∧ checkHolds [4, 0, 0, 0, 0, 0, 0, 0xFC] = true) ∧
      ([3, 0, 0, 0, 0, 0, 0xFD] : List Octet).length ≠ 8 := by decide

end Sys2Proof.Tests
end

section
/-! Proofs of the family of the floor's requests: SEAT OPEN (O35), SEAT CLOSE and SEAT DEQUEUE (O36), FLOOR CLEAR (O38). The rules
of the floor's state operations come first, then what the Screen Director leaves (`ScreensOnly`), what the end of an event does
before its GRACE report (`Settles`), and what an evaluation does to floors (`Subsides`). -/

namespace Sys2Proof.Machine

open Sys2Proof

/-! # One rule per state operation of the floors

What a change of one floor or one seat gives at that floor or seat, and at every other. -/

theorem modFloor_floor_same (r : SectionId) (f : Floor → Floor) (s : State) : (modFloor r f s).floors[r] = f s.floors[r] := by
  simp

theorem modFloor_floor_ne {r q : SectionId} (h : q ≠ r) (f : Floor → Floor) (s : State) :
    (modFloor r f s).floors[q] = s.floors[q] := by
  have h' : r.val ≠ q.val := fun e => h (Fin.ext e.symm)
  simp [Vector.getElem_set_ne _ _ h']

theorem modSeat_seat_same (i : SeatId) (f : Seat → Seat) (s : State) : (modSeat i f s).seats[i] = f s.seats[i] := by
  simp

theorem modSeat_seat_ne {i j : SeatId} (h : j ≠ i) (f : Seat → Seat) (s : State) : (modSeat i f s).seats[j] = s.seats[j] := by
  have h' : i.val ≠ j.val := fun e => h (Fin.ext e.symm)
  simp [Vector.getElem_set_ne _ _ h']

theorem modFloor_eq_self {r : SectionId} {f : Floor → Floor} {s : State} (h : f s.floors[r] = s.floors[r]) :
    modFloor r f s = s := by
  have : s.floors.set r (f s.floors[r]) = s.floors := by rw [h]; exact Vector.set_getElem_self ..
  rw [modFloor, this]

theorem modSeat_eq_self {i : SeatId} {f : Seat → Seat} {s : State} (h : f s.seats[i] = s.seats[i]) : modSeat i f s = s := by
  have : s.seats.set i (f s.seats[i]) = s.seats := by rw [h]; exact Vector.set_getElem_self ..
  rw [modSeat, this]

/-! ## setMic -/

@[simp] theorem setMic_floors (i : SeatId) (m : MicState) (s : State) : (setMic i m s).floors = s.floors := by
  unfold setMic
  repeat' split
  all_goals rfl

@[simp] theorem setMic_cal (i : SeatId) (m : MicState) (s : State) : (setMic i m s).cal = s.cal := by
  unfold setMic
  repeat' split
  all_goals rfl

theorem setMic_seats (i : SeatId) (m : MicState) (s : State) :
    (setMic i m s).seats = (modSeat i (fun x => { x with mic := m }) s).seats := by
  unfold setMic
  split
  · next h => rw [modSeat_eq_self (by rw [← h])]
  · split <;> rfl

theorem setMic_seat_same (i : SeatId) (m : MicState) (s : State) : (setMic i m s).seats[i] = { s.seats[i] with mic := m } := by
  rw [setMic_seats, modSeat_seat_same]

theorem setMic_seat_ne {i j : SeatId} (h : j ≠ i) (m : MicState) (s : State) : (setMic i m s).seats[j] = s.seats[j] := by
  rw [setMic_seats, modSeat_seat_ne h]

/-! ## Queue -/

theorem leaveQueue_floors (r : SectionId) (i : SeatId) (s : State) :
    (leaveQueue r i s).floors = (modFloor r (fun f => { f with queue := f.queue.filter (· != i) }) s).floors := by
  unfold leaveQueue floorOf
  split
  · rfl
  · next h =>
    have : s.floors[r].queue.filter (· != i) = s.floors[r].queue := by
      rw [List.filter_eq_self]
      intro j hj
      simpa using fun e : j = i => h (e ▸ hj)
    rw [modFloor_eq_self (by rw [this])]

@[simp] theorem leaveQueue_seats (r : SectionId) (i : SeatId) (s : State) : (leaveQueue r i s).seats = s.seats := by
  unfold leaveQueue
  split <;> rfl

@[simp] theorem leaveQueue_cal (r : SectionId) (i : SeatId) (s : State) : (leaveQueue r i s).cal = s.cal := by
  unfold leaveQueue
  split <;> rfl

@[simp] theorem leaveQueue_admissions (r : SectionId) (i : SeatId) (s : State) :
    (leaveQueue r i s).admissions = s.admissions := by
  unfold leaveQueue
  split <;> rfl

theorem withdraw_floors (r : SectionId) (i : SeatId) (s : State) :
    (withdraw r i s).floors = (modFloor r (fun f => { f with queue := f.queue.filter (· != i) }) s).floors := by
  rw [withdraw, setMic_floors, leaveQueue_floors]

theorem withdraw_floor_same (r : SectionId) (i : SeatId) (s : State) :
    (withdraw r i s).floors[r] = { s.floors[r] with queue := s.floors[r].queue.filter (· != i) } := by
  rw [withdraw_floors, modFloor_floor_same]

theorem withdraw_seat_same (r : SectionId) (i : SeatId) (s : State) :
    (withdraw r i s).seats[i] = { s.seats[i] with mic := .off } := by
  rw [withdraw, setMic_seat_same, leaveQueue_seats]

theorem withdraw_seat_ne {i j : SeatId} (h : j ≠ i) (r : SectionId) (s : State) : (withdraw r i s).seats[j] = s.seats[j] := by
  rw [withdraw, setMic_seat_ne h, leaveQueue_seats]

@[simp] theorem withdraw_cal (r : SectionId) (i : SeatId) (s : State) : (withdraw r i s).cal = s.cal := by
  simp [withdraw]

/-! ## Open set

An entry of an open set is told by its seat and its mark: its admission time may be renumbered at any admission (R46). -/

/-- What a renumbering keeps of an entry. -/
def seatAndMark (e : OpenEntry) : SeatId × Bool := (e.seat, e.priorityOpened)

/-- The entries of a room's open set, without their times. -/
def entriesOf (s : State) (r : SectionId) : List (SeatId × Bool) := s.floors[r].openSet.map seatAndMark

theorem hasEntry_iff {s : State} {r : SectionId} {i : SeatId} {m : Bool} : hasEntry s r i m ↔ (i, m) ∈ entriesOf s r := by
  simp [hasEntry, entriesOf, seatAndMark]

theorem mem_openSeats_iff {s : State} {r : SectionId} {i : SeatId} : i ∈ openSeats s r ↔ ∃ m, (i, m) ∈ entriesOf s r := by
  simp only [openSeats, floorOf, entriesOf, seatAndMark, List.mem_map, Prod.mk.injEq]
  exact ⟨fun ⟨e, he, hi⟩ => ⟨_, e, he, hi, rfl⟩, fun ⟨_, e, he, hi, _⟩ => ⟨e, he, hi⟩⟩

theorem entriesOf_eq_nil_iff {s : State} {r : SectionId} : entriesOf s r = [] ↔ s.floors[r].openSet = [] := by
  simp [entriesOf]

theorem map_seatAndMark_renumbered (es : List OpenEntry) : (renumbered es).map seatAndMark = es.map seatAndMark := by
  apply List.ext_getElem <;> simp [renumbered, seatAndMark]

theorem map_seatAndMark_filter (es : List OpenEntry) (i : SeatId) :
    (es.filter (·.seat != i)).map seatAndMark = (es.map seatAndMark).filter (·.1 != i) := by
  simp [List.filter_map, Function.comp_def, seatAndMark]

/-- A renumbering of the open sets before an admission changes their times alone. -/
theorem roomForAdmission_floor (q : SectionId) (s : State) :
    ∃ es, es.map seatAndMark = entriesOf s q ∧ (roomForAdmission s).floors[q] = { s.floors[q] with openSet := es } := by
  unfold roomForAdmission
  split
  · exact ⟨_, rfl, rfl⟩
  · exact ⟨_, map_seatAndMark_renumbered _, by simp [renumberAll]⟩

@[simp] theorem roomForAdmission_seats (s : State) : (roomForAdmission s).seats = s.seats := by
  unfold roomForAdmission
  split <;> rfl

@[simp] theorem roomForAdmission_cal (s : State) : (roomForAdmission s).cal = s.cal := by
  unfold roomForAdmission
  split <;> rfl

/-! ## Admission (R50) -/

/-- An admission puts the seat, with its mark, at the tail of the open set, and takes it out of the queue. -/
theorem admitSeat_floor_same (r : SectionId) (i : SeatId) (m : Bool) (s : State) :
    ∃ es, es.map seatAndMark = (entriesOf s r).filter (·.1 != i) ++ [(i, m)] ∧
      (admitSeat r i m s).floors[r] = { s.floors[r] with queue := s.floors[r].queue.filter (· != i), openSet := es } := by
  obtain ⟨es, hes, hr⟩ := roomForAdmission_floor r s
  refine ⟨es.filter (·.seat != i) ++ [⟨i, (roomForAdmission s).admissions + 1, m⟩], ?_, ?_⟩
  · rw [List.map_append, map_seatAndMark_filter, hes]
    rfl
  · simp only [admitSeat, setMic_floors, modSeat_floors, modFloor_floor_same, nextAdmission, dropEntry, leaveQueue_floors, hr,
      modFloor_admissions, leaveQueue_admissions]

theorem admitSeat_floor_ne {r q : SectionId} (h : q ≠ r) (i : SeatId) (m : Bool) (s : State) :
    ∃ es, es.map seatAndMark = entriesOf s q ∧ (admitSeat r i m s).floors[q] = { s.floors[q] with openSet := es } := by
  obtain ⟨es, hes, hq⟩ := roomForAdmission_floor q s
  refine ⟨es, hes, ?_⟩
  rw [← hq]
  simp only [admitSeat, setMic_floors, modSeat_floors, modFloor_floor_ne h, nextAdmission, dropEntry, leaveQueue_floors]

theorem admitSeat_entry (r : SectionId) (i : SeatId) (m : Bool) (s : State) : (i, m) ∈ entriesOf (admitSeat r i m s) r := by
  obtain ⟨es, hes, hr⟩ := admitSeat_floor_same r i m s
  simp [entriesOf, hr, hes]

theorem admitSeat_not_in_queue (r : SectionId) (i : SeatId) (m : Bool) (s : State) :
    i ∉ (admitSeat r i m s).floors[r].queue := by
  obtain ⟨es, -, hr⟩ := admitSeat_floor_same r i m s
  rw [hr]
  simp

theorem admitSeat_seat_same (r : SectionId) (i : SeatId) (m : Bool) (s : State) :
    (admitSeat r i m s).seats[i] = { countsZero s.seats[i] with mic := .opening } := by
  simp only [admitSeat, setMic_seat_same, modSeat_seat_same]
  simp [nextAdmission, dropEntry]

theorem admitSeat_seat_ne {i j : SeatId} (h : j ≠ i) (r : SectionId) (m : Bool) (s : State) :
    (admitSeat r i m s).seats[j] = s.seats[j] := by
  simp only [admitSeat, setMic_seat_ne h, modSeat_seat_ne h]
  simp [nextAdmission, dropEntry]

@[simp] theorem admitSeat_cal (r : SectionId) (i : SeatId) (m : Bool) (s : State) : (admitSeat r i m s).cal = s.cal := by
  simp [admitSeat, nextAdmission, dropEntry]

/-! ## Close (R51) -/

theorem closeSeat_of_not_open {i : SeatId} {s : State} (h : isOpenMic s.seats[i].mic = false) (r : SectionId) :
    closeSeat r i s = s := by
  simp only [closeSeat, h, Bool.false_eq_true, if_false]

theorem closeSeat_of_open {i : SeatId} {s : State} (h : isOpenMic s.seats[i].mic = true) (r : SectionId) :
    closeSeat r i s =
      setMic i (closedMic s.seats[i]) (modSeat i (fun y => { y with limitWarning := false }) (dropEntry r i s)) := by
  simp only [closeSeat, h, if_true, closedMic]

theorem closeSeat_floors {i : SeatId} {s : State} (h : isOpenMic s.seats[i].mic = true) (r : SectionId) :
    (closeSeat r i s).floors = (dropEntry r i s).floors := by
  rw [closeSeat_of_open h, setMic_floors, modSeat_floors]

theorem closeSeat_floor_same {i : SeatId} {s : State} (h : isOpenMic s.seats[i].mic = true) (r : SectionId) :
    (closeSeat r i s).floors[r] = { s.floors[r] with openSet := s.floors[r].openSet.filter (·.seat != i) } := by
  rw [closeSeat_floors h, dropEntry, modFloor_floor_same]

theorem closeSeat_mic_same {i : SeatId} {s : State} (h : isOpenMic s.seats[i].mic = true) (r : SectionId) :
    (closeSeat r i s).seats[i].mic = closedMic s.seats[i] := by
  rw [closeSeat_of_open h, setMic_seat_same]

theorem closeSeat_seat_ne {i j : SeatId} (h : j ≠ i) (r : SectionId) (s : State) :
    (closeSeat r i s).seats[j] = s.seats[j] := by
  cases o : isOpenMic s.seats[i].mic
  · rw [closeSeat_of_not_open o]
  · rw [closeSeat_of_open o, setMic_seat_ne h, modSeat_seat_ne h, dropEntry, modFloor_seats]

@[simp] theorem closeSeat_cal (r : SectionId) (i : SeatId) (s : State) : (closeSeat r i s).cal = s.cal := by
  cases o : isOpenMic s.seats[i].mic
  · rw [closeSeat_of_not_open o]
  · simp [closeSeat_of_open o, dropEntry]

theorem closedMic_cases (x : Seat) : closedMic x = .off ∨ closedMic x = .closing := by
  unfold closedMic
  split
  · exact .inl rfl
  · exact .inr rfl

/-- A seat whose closing has been asked for is not open, whatever it was. -/
theorem closeSeat_not_open (r : SectionId) (i : SeatId) (s : State) : isOpenMic (closeSeat r i s).seats[i].mic = false := by
  cases o : isOpenMic s.seats[i].mic
  · rw [closeSeat_of_not_open o, o]
  · rw [closeSeat_mic_same o]
    rcases closedMic_cases s.seats[i] with h | h <;> rw [h] <;> rfl

/-! # The Screen Director leaves the floors alone -/

/-- Nothing but the Screen Director's state has changed. -/
def ScreensOnly (s t : State) : Prop := t = { s with video := t.video }

theorem ScreensOnly.refl (s : State) : ScreensOnly s s := rfl

theorem ScreensOnly.trans {s t u : State} (h : ScreensOnly s t) (k : ScreensOnly t u) : ScreensOnly s u := by
  unfold ScreensOnly at *
  rw [h] at k
  exact k

theorem ScreensOnly.floors {s t : State} (h : ScreensOnly s t) : t.floors = s.floors := by
  rw [show t = _ from h]

theorem ScreensOnly.seats {s t : State} (h : ScreensOnly s t) : t.seats = s.seats := by
  rw [show t = _ from h]

theorem ScreensOnly.cal {s t : State} (h : ScreensOnly s t) : t.cal = s.cal := by
  rw [show t = _ from h]

theorem modFollow_screensOnly (r : SectionId) (f : Follow → Follow) (s : State) : ScreensOnly s (modFollow r f s) := rfl

theorem unqueue_screensOnly (p : Directive → Bool) (s : State) : ScreensOnly s (unqueue p s) := rfl

theorem forEach_screensOnly {α : Type} {f : α → State → State} (hf : ∀ x s, ScreensOnly s (f x s)) (xs : List α) (s : State) :
    ScreensOnly s (forEach xs f s) := by
  induction xs generalizing s with
  | nil => exact ScreensOnly.refl s
  | cons x xs ih => exact (hf x s).trans (ih (f x s))

theorem reconcile_screensOnly (k : ScreenId) (s : State) : ScreensOnly s (reconcile k s) := by
  unfold reconcile
  dsimp only
  repeat' split
  all_goals rfl

theorem reconcileRoom_screensOnly (r : SectionId) (s : State) : ScreensOnly s (reconcileRoom r s) := by
  refine forEach_screensOnly (fun k t => ?_) _ s
  split
  · exact reconcile_screensOnly k t
  · exact ScreensOnly.refl t

theorem dropAwaited_screensOnly (r : SectionId) (s : State) : ScreensOnly s (dropAwaited r s) := by
  unfold dropAwaited
  split <;> rfl

theorem startDwell_screensOnly (r : SectionId) (s : State) : ScreensOnly s (startDwell r s) := by
  unfold startDwell
  repeat' split
  all_goals rfl

theorem putUp_screensOnly (r : SectionId) (x : Shot) (s : State) : ScreensOnly s (putUp r x s) := by
  unfold putUp
  dsimp only
  split
  · exact (((modFollow_screensOnly r _ s).trans (unqueue_screensOnly _ _)).trans (startDwell_screensOnly r _)).trans
      (reconcileRoom_screensOnly r _)
  · rfl

theorem actOverview_screensOnly (r : SectionId) (s : State) : ScreensOnly s (actOverview r s) := by
  unfold actOverview
  dsimp only
  split
  · exact dropAwaited_screensOnly r s
  · exact (dropAwaited_screensOnly r s).trans (putUp_screensOnly r _ _)

theorem actCandidate_screensOnly (r : SectionId) (s : State) : ScreensOnly s (actCandidate r s) := by
  unfold actCandidate
  split
  · exact (dropAwaited_screensOnly r s).trans (putUp_screensOnly r _ _)
  · exact actOverview_screensOnly r s

theorem candidateChange_screensOnly (r : SectionId) (c : Option SeatId) (s : State) :
    ScreensOnly s (candidateChange r c s) := by
  unfold candidateChange
  dsimp only
  repeat' split
  · rfl
  · rfl
  · rfl
  · exact (modFollow_screensOnly r _ s).trans (actCandidate_screensOnly r _)

theorem resetFollow_screensOnly (r : SectionId) (s : State) : ScreensOnly s (resetFollow r s) :=
  (dropAwaited_screensOnly r s).trans rfl

theorem followSessionStart_screensOnly (r : SectionId) (s : State) : ScreensOnly s (followSessionStart r s) := by
  unfold followSessionStart
  dsimp only
  split
  · exact (resetFollow_screensOnly r s).trans (actCandidate_screensOnly r _)
  · exact resetFollow_screensOnly r s

theorem handEnd_screensOnly (old new : SlotTable) (k : SlotId) (s : State) : ScreensOnly s (handEnd old new k s) := by
  unfold handEnd
  repeat' split
  · rfl
  · exact resetFollow_screensOnly _ s
  · rfl

theorem handStart_screensOnly (old new : SlotTable) (k : SlotId) (s : State) : ScreensOnly s (handStart old new k s) := by
  unfold handStart
  repeat' split
  · rfl
  · exact followSessionStart_screensOnly _ s
  · rfl

theorem handOver_screensOnly (old : SlotTable) (s : State) : ScreensOnly s (handOver old s) := by
  refine ((forEach_screensOnly (handEnd_screensOnly old s.cal.slots) _ s).trans
    (forEach_screensOnly (handStart_screensOnly old s.cal.slots) _ _)).trans (forEach_screensOnly (fun r t => ?_) _ _)
  split
  · exact reconcileRoom_screensOnly r t
  · exact ScreensOnly.refl t

/-- The Screen Director is told of a new floor speaker, and the floor names it (R69); nothing else changes. -/
theorem updateSpeaker_screensOnly (r : SectionId) (s : State) :
    ScreensOnly (modFloor r (fun f => { f with speaker := computeSpeaker s r }) s) (updateSpeaker r s) := by
  unfold updateSpeaker floorOf
  dsimp only
  split
  · next h => rw [modFloor_eq_self (by rw [h])]; rfl
  · exact candidateChange_screensOnly r _ _

theorem updateSpeaker_floor (r q : SectionId) (s : State) :
    ∃ x, (updateSpeaker r s).floors[q] = { s.floors[q] with speaker := x } := by
  rw [(updateSpeaker_screensOnly r s).floors]
  by_cases h : q = r
  · subst h
    exact ⟨_, modFloor_floor_same ..⟩
  · exact ⟨s.floors[q].speaker, modFloor_floor_ne h ..⟩

@[simp] theorem updateSpeaker_seats (r : SectionId) (s : State) : (updateSpeaker r s).seats = s.seats :=
  (updateSpeaker_screensOnly r s).seats

@[simp] theorem updateSpeaker_cal (r : SectionId) (s : State) : (updateSpeaker r s).cal = s.cal :=
  (updateSpeaker_screensOnly r s).cal

/-! # The end of an event at a floor, before its GRACE report

Auto-advance admits seats of the queue (R60), and the floor speaker is named (R69). `Settles` says what these can do. -/

/-- What auto-advance and the naming of the floor speaker of a room can do: a seat that was not in the room's queue is as it was. -/
structure Settles (r : SectionId) (s t : State) : Prop where
  queue : ∀ q : SectionId, t.floors[q].queue ⊆ s.floors[q].queue
  holders : ∀ q : SectionId, t.floors[q].holders = s.floors[q].holders
  state : ∀ q : SectionId, t.floors[q].state = s.floors[q].state
  entries : ∀ (q : SectionId) (i : SeatId), i ∉ s.floors[r].queue → ∀ m, (i, m) ∈ entriesOf t q ↔ (i, m) ∈ entriesOf s q
  occupied : entriesOf s r ≠ [] → entriesOf t r ≠ []
  seat : ∀ i : SeatId, i ∉ s.floors[r].queue → t.seats[i] = s.seats[i]
  cal : t.cal = s.cal

theorem Settles.refl (r : SectionId) (s : State) : Settles r s s where
  queue _ := List.Subset.refl _
  holders _ := rfl
  state _ := rfl
  entries _ _ _ _ := Iff.rfl
  occupied := id
  seat _ _ := rfl
  cal := rfl

theorem Settles.trans {r : SectionId} {s t u : State} (h : Settles r s t) (k : Settles r t u) : Settles r s u where
  queue q := List.Subset.trans (k.queue q) (h.queue q)
  holders q := (k.holders q).trans (h.holders q)
  state q := (k.state q).trans (h.state q)
  entries q i hi m := (k.entries q i (fun c => hi (h.queue r c)) m).trans (h.entries q i hi m)
  occupied := k.occupied ∘ h.occupied
  seat i hi := (k.seat i (fun c => hi (h.queue r c))).trans (h.seat i hi)
  cal := k.cal.trans h.cal

/-- At a room whose queue is empty, an empty open set stays empty. -/
theorem Settles.entries_nil {r : SectionId} {s t : State} (h : Settles r s t) (hq : s.floors[r].queue = [])
    (he : entriesOf s r = []) : entriesOf t r = [] := by
  refine List.eq_nil_iff_forall_not_mem.mpr fun ⟨i, m⟩ hi => ?_
  rw [h.entries r i (hq ▸ List.not_mem_nil), he] at hi
  exact List.not_mem_nil hi

/-- What an admission leaves of a floor: the queue has no new seat, and the entries of other seats stay. -/
theorem admitSeat_floor (r q : SectionId) (i : SeatId) (m : Bool) (s : State) :
    ∃ qs es, (admitSeat r i m s).floors[q] = { s.floors[q] with queue := qs, openSet := es } ∧ qs ⊆ s.floors[q].queue ∧
      ∀ j, j ≠ i → ∀ n, (j, n) ∈ es.map seatAndMark ↔ (j, n) ∈ entriesOf s q := by
  by_cases h : q = r
  · subst h
    obtain ⟨es, hes, hq⟩ := admitSeat_floor_same q i m s
    exact ⟨_, es, hq, List.filter_subset_self _, fun j hj n => by simp [hes, hj]⟩
  · obtain ⟨es, hes, hq⟩ := admitSeat_floor_ne h i m s
    exact ⟨_, es, hq, List.Subset.refl _, fun j _ n => by rw [hes]⟩

theorem admitSeat_settles {r : SectionId} {i : SeatId} {s : State} (hi : i ∈ s.floors[r].queue) :
    Settles r s (admitSeat r i false s) := by
  have ne {j : SeatId} (hj : j ∉ s.floors[r].queue) : j ≠ i := fun e => hj (e ▸ hi)
  refine ⟨fun q => ?_, fun q => ?_, fun q => ?_, fun q j hj n => ?_,
    fun _ => List.ne_nil_of_mem (admitSeat_entry r i false s), fun j hj => admitSeat_seat_ne (ne hj) r false s, admitSeat_cal ..⟩
  all_goals
    obtain ⟨qs, es, hq, sub, stay⟩ := admitSeat_floor r q i false s
    simp only [entriesOf, hq]
  · exact sub
  · exact stay j (ne hj) n

theorem autoAdvanceN_settles (r : SectionId) (n : Nat) (s : State) : Settles r s (autoAdvanceN r n s) := by
  induction n generalizing s with
  | zero => exact Settles.refl r s
  | succ n ih =>
    unfold autoAdvanceN floorOf
    repeat' split
    · exact Settles.refl r s
    · next i hi => exact (admitSeat_settles (List.mem_of_head? hi)).trans (ih _)
    · exact Settles.refl r s

theorem updateSpeaker_settles (r : SectionId) (s : State) : Settles r s (updateSpeaker r s) := by
  have floor := fun q => updateSpeaker_floor r q s
  have entries : ∀ q, entriesOf (updateSpeaker r s) q = entriesOf s q := fun q => by
    obtain ⟨x, h⟩ := floor q
    rw [entriesOf, h, entriesOf]
  refine ⟨fun q => ?_, fun q => ?_, fun q => ?_, fun q j _ m => by rw [entries], fun h => by rwa [entries],
    fun j _ => by rw [updateSpeaker_seats], updateSpeaker_cal r s⟩
  all_goals
    obtain ⟨x, h⟩ := floor q
    rw [h]
  exact List.Subset.refl _

/-- Nothing to do at the end of an event: no head of the queue may be admitted, and the floor speaker stands. -/
theorem settle_of_settled {r : SectionId} {s : State} (h : settled s r) : settle s r s = s := by
  obtain ⟨hq, hs⟩ := h
  have advance : autoAdvance r s = s := by
    unfold autoAdvance floorOf
    rcases hq with hq | hq
    · cases s.floors[r].queue.length <;> simp [autoAdvanceN, hq]
    · rw [hq]; rfl
  have speaker : updateSpeaker r s = s := by
    unfold updateSpeaker floorOf
    simp only [hs, if_true]
  have grace : graceEmptied s r s = false := by
    unfold graceEmptied
    cases (floorOf s r).openSet.isEmpty <;> rfl
  simp only [settle, advance, speaker, grace, Bool.false_eq_true, if_false]

/-! # What an evaluation can do to the floors

An evaluation of the calendar ends and starts sessions, and may enter STANDBY. It admits no seat. -/

/-- A floor has come nearer to rest: its queue, its open set and its holders have no new seat, and it has not entered PRIORITY. -/
structure FloorSubsides (f g : Floor) : Prop where
  queue : g.queue ⊆ f.queue
  openSet : g.openSet ⊆ f.openSet
  holders : g.holders ⊆ f.holders
  priority : g.state = .priority → f.state = .priority

theorem FloorSubsides.refl (f : Floor) : FloorSubsides f f :=
  ⟨List.Subset.refl _, List.Subset.refl _, List.Subset.refl _, id⟩

theorem FloorSubsides.trans {f g h : Floor} (a : FloorSubsides f g) (b : FloorSubsides g h) : FloorSubsides f h where
  queue := List.Subset.trans b.queue a.queue
  openSet := List.Subset.trans b.openSet a.openSet
  holders := List.Subset.trans b.holders a.holders
  priority := a.priority ∘ b.priority

/-- Every floor has come nearer to rest, and of the seats given here, and of no other, some have been withdrawn or closed. -/
structure SubsidesOn (may : SeatId → Prop) (s t : State) : Prop where
  floor : ∀ q : SectionId, FloorSubsides s.floors[q] t.floors[q]
  mic : ∀ i : SeatId, t.seats[i].mic = s.seats[i].mic ∨
    may i ∧ (t.seats[i].mic = .off ∨ t.seats[i].mic = .closing ∧ isOpenMic s.seats[i].mic = true)

/-- A seat stands in a queue or in an open set. -/
def listed (s : State) (i : SeatId) : Prop := ∃ r : SectionId, i ∈ s.floors[r].queue ∨ i ∈ openSeats s r

/-- The floors have come nearer to rest, and only seats of a queue or an open set have been withdrawn or closed. -/
abbrev Subsides (s t : State) : Prop := SubsidesOn (listed s) s t

theorem SubsidesOn.of_same {may : SeatId → Prop} {s t : State} (hf : t.floors = s.floors)
    (hm : ∀ i : SeatId, t.seats[i].mic = s.seats[i].mic) : SubsidesOn may s t where
  floor q := by rw [hf]; exact FloorSubsides.refl _
  mic i := .inl (hm i)

theorem SubsidesOn.refl (may : SeatId → Prop) (s : State) : SubsidesOn may s s := .of_same rfl fun _ => rfl

theorem SubsidesOn.mono {may may' : SeatId → Prop} {s t : State} (h : SubsidesOn may s t) (hm : ∀ i, may i → may' i) :
    SubsidesOn may' s t :=
  { h with mic := fun i => (h.mic i).imp_right (And.imp_left (hm i)) }

theorem SubsidesOn.trans {may : SeatId → Prop} {s t u : State} (h : SubsidesOn may s t) (k : SubsidesOn may t u) :
    SubsidesOn may s u where
  floor q := (h.floor q).trans (k.floor q)
  mic i := by
    rcases k.mic i with e | ⟨hi, off | ⟨closing, wasOpen⟩⟩
    · rw [e]; exact h.mic i
    · exact .inr ⟨hi, .inl off⟩
    · rcases h.mic i with e | ⟨-, off | ⟨closing', -⟩⟩
      · exact .inr ⟨hi, .inr ⟨closing, e ▸ wasOpen⟩⟩
      · rw [off] at wasOpen; cases wasOpen
      · rw [closing'] at wasOpen; cases wasOpen

section
variable {may : SeatId → Prop} {s t : State} {i : SeatId}

theorem SubsidesOn.was_listed (h : SubsidesOn may s t) (hi : listed t i) : listed s i := by
  obtain ⟨r, hq | ho⟩ := hi
  · exact ⟨r, .inl ((h.floor r).queue hq)⟩
  · exact ⟨r, .inr (List.map_subset _ (h.floor r).openSet ho)⟩

theorem SubsidesOn.mic_of_not (h : SubsidesOn may s t) (hi : ¬ may i) : t.seats[i].mic = s.seats[i].mic :=
  (h.mic i).resolve_right fun c => hi c.1

theorem SubsidesOn.off (h : SubsidesOn may s t) (hi : s.seats[i].mic = .off) : t.seats[i].mic = .off := by
  rcases h.mic i with e | ⟨-, off | ⟨-, wasOpen⟩⟩
  · exact e.trans hi
  · exact off
  · rw [hi] at wasOpen; cases wasOpen

theorem SubsidesOn.not_open (h : SubsidesOn may s t) (hi : isOpenMic s.seats[i].mic = false) :
    isOpenMic t.seats[i].mic = false := by
  rcases h.mic i with e | ⟨-, off | ⟨closing, -⟩⟩
  · rw [e, hi]
  · rw [off]; rfl
  · rw [closing]; rfl

end

theorem Subsides.trans {s t u : State} (h : Subsides s t) (k : Subsides t u) : Subsides s u :=
  SubsidesOn.trans h (SubsidesOn.mono k fun _ => SubsidesOn.was_listed h)

theorem ScreensOnly.subsides {may : SeatId → Prop} {s t : State} (h : ScreensOnly s t) : SubsidesOn may s t :=
  .of_same h.floors fun _ => by rw [h.seats]

theorem forEach_subsidesOn {may : SeatId → Prop} {α : Type} {f : α → State → State} {xs : List α}
    (hf : ∀ x ∈ xs, ∀ s, SubsidesOn may s (f x s)) (s : State) : SubsidesOn may s (forEach xs f s) := by
  induction xs generalizing s with
  | nil => exact SubsidesOn.refl may s
  | cons x xs ih =>
    exact (hf x List.mem_cons_self s).trans (ih (fun y hy => hf y (List.mem_cons_of_mem x hy)) (f x s))

theorem forEach_subsides {α : Type} {f : α → State → State} (hf : ∀ x s, Subsides s (f x s)) (xs : List α) (s : State) :
    Subsides s (forEach xs f s) := by
  induction xs generalizing s with
  | nil => exact SubsidesOn.refl _ s
  | cons x xs ih => exact Subsides.trans (hf x s) (ih (f x s))

/-! ## The operations of the floors -/

theorem modFloor_subsides {may : SeatId → Prop} {r : SectionId} {f : Floor → Floor} {s : State}
    (h : FloorSubsides s.floors[r] (f s.floors[r])) : SubsidesOn may s (modFloor r f s) where
  floor q := by
    by_cases hq : q = r
    · subst hq; rwa [modFloor_floor_same]
    · rw [modFloor_floor_ne hq]; exact FloorSubsides.refl _
  mic _ := .inl rfl

/-- One seat's mic state goes to OFF, or from open to CLOSING. -/
theorem SubsidesOn.of_seat {i : SeatId} {s t : State} (hf : t.floors = s.floors)
    (hne : ∀ j : SeatId, j ≠ i → t.seats[j] = s.seats[j])
    (hi : t.seats[i].mic = .off ∨ t.seats[i].mic = .closing ∧ isOpenMic s.seats[i].mic = true) : SubsidesOn (· = i) s t where
  floor q := by rw [hf]; exact FloorSubsides.refl _
  mic j := by
    by_cases hj : j = i
    · subst hj; exact .inr ⟨rfl, hi⟩
    · exact .inl (by rw [hne j hj])

theorem dropEntry_subsides {may : SeatId → Prop} (r : SectionId) (i : SeatId) (s : State) : SubsidesOn may s (dropEntry r i s) :=
  modFloor_subsides { FloorSubsides.refl _ with openSet := List.filter_subset_self _ }

theorem closeSeat_subsides (r : SectionId) (i : SeatId) (s : State) : SubsidesOn (· = i) s (closeSeat r i s) := by
  cases o : isOpenMic s.seats[i].mic
  · rw [closeSeat_of_not_open o]
    exact SubsidesOn.refl _ s
  · refine (dropEntry_subsides r i s).trans (.of_seat (closeSeat_floors o r) (fun j hj => closeSeat_seat_ne hj r s) ?_)
    rw [closeSeat_mic_same o]
    exact (closedMic_cases _).imp_right fun h => ⟨h, o⟩

theorem withdraw_subsides (r : SectionId) (i : SeatId) (s : State) : SubsidesOn (· = i) s (withdraw r i s) := by
  refine SubsidesOn.trans (modFloor_subsides { FloorSubsides.refl _ with queue := List.filter_subset_self _ })
    (.of_seat (withdraw_floors r i s) (fun j hj => withdraw_seat_ne hj r s) (.inl ?_))
  rw [withdraw_seat_same]

theorem closeSeats_subsides (r : SectionId) (is : List SeatId) (s : State) :
    SubsidesOn (· ∈ is) s (forEach is (closeSeat r) s) :=
  forEach_subsidesOn (fun i hi t => (closeSeat_subsides r i t).mono fun _ e => e ▸ hi) s

theorem withdrawals_subsides (r : SectionId) (is : List SeatId) (s : State) :
    SubsidesOn (· ∈ is) s (forEach is (withdraw r) s) :=
  forEach_subsidesOn (fun i hi t => (withdraw_subsides r i t).mono fun _ e => e ▸ hi) s

theorem clearFloor_subsides (r : SectionId) (s : State) : Subsides s (clearFloor r s) := by
  have close : Subsides s (closeAll r s) := (closeSeats_subsides r _ s).mono fun _ hi => ⟨r, .inr hi⟩
  have empty : Subsides (closeAll r s) (emptyQueue r (closeAll r s)) :=
    (withdrawals_subsides r _ _).mono fun _ hi => ⟨r, .inl hi⟩
  exact (close.trans empty).trans (modFloor_subsides { FloorSubsides.refl _ with holders := List.nil_subset _ })

theorem updateSpeaker_subsides (r : SectionId) (s : State) : Subsides s (updateSpeaker r s) :=
  SubsidesOn.trans (modFloor_subsides { FloorSubsides.refl _ with }) (updateSpeaker_screensOnly r s).subsides

theorem floorStart_subsides (r : SectionId) (k : SlotId) (p : ProfileId) (s : State) : Subsides s (floorStart r k p s) :=
  modFloor_subsides ⟨List.nil_subset _, List.nil_subset _, List.nil_subset _, fun h => nomatch h⟩

theorem floorEnd_subsides (r : SectionId) (s : State) : Subsides s (floorEnd r s) := by
  unfold floorEnd
  split
  · exact modFloor_subsides { FloorSubsides.refl _ with }
  · refine Subsides.trans (clearFloor_subsides r s) (Subsides.trans (modFloor_subsides ?_) (updateSpeaker_subsides r _))
    exact { FloorSubsides.refl _ with priority := fun h => nomatch h }

/-! ## The Booking Calendar and the Standby Controller -/

theorem putBooking_subsides {may : SeatId → Prop} (k : SlotId) (b : Option Booking) (s : State) :
    SubsidesOn may s (putBooking k b s) :=
  .of_same rfl fun _ => rfl

theorem setBookingState_subsides {may : SeatId → Prop} (k : SlotId) (b : Booking) (x : BookingState) (s : State) :
    SubsidesOn may s (setBookingState k b x s) := by
  unfold setBookingState
  split
  · exact SubsidesOn.refl _ s
  · exact putBooking_subsides k _ s

theorem modStandby_subsides {may : SeatId → Prop} (f : Standby → Standby) (s : State) : SubsidesOn may s (modStandby f s) :=
  .of_same rfl fun _ => rfl

theorem setRoomState_subsides {may : SeatId → Prop} (x : RoomState) (s : State) : SubsidesOn may s (setRoomState x s) :=
  .of_same rfl fun _ => rfl

theorem endBooking_subsides (k : SlotId) (b : Booking) (s : State) : Subsides s (endBooking k b s) := by
  unfold endBooking
  dsimp only
  split
  · exact (Subsides.trans (putBooking_subsides k _ s) (floorEnd_subsides b.first _)).trans (modStandby_subsides _ _)
  · exact putBooking_subsides k _ s

theorem reconcileAll_subsides {may : SeatId → Prop} (s : State) : SubsidesOn may s (reconcileAll s) :=
  (forEach_screensOnly reconcile_screensOnly _ s).subsides

theorem wakeForBooking_subsides {may : SeatId → Prop} (s : State) : SubsidesOn may s (wakeForBooking s) := by
  unfold wakeForBooking
  split
  · exact ((setRoomState_subsides .waking s).trans (modStandby_subsides _ _)).trans (reconcileAll_subsides _)
  · exact SubsidesOn.refl _ s

theorem evalWaiting_subsides (w : Why) (k : SlotId) (b : Booking) (s : State) : Subsides s (evalWaiting w k b s) := by
  unfold evalWaiting
  dsimp only
  repeat' split
  · exact (wakeForBooking_subsides s).trans (setBookingState_subsides k b _ _)
  · exact SubsidesOn.refl _ s
  · exact (wakeForBooking_subsides s).trans (setBookingState_subsides k b _ _)
  · exact setBookingState_subsides k b _ s

theorem evalSession_subsides (w : Why) (k : SlotId) (b : Booking) (s : State) : Subsides s (evalSession w k b s) := by
  unfold evalSession
  repeat' split
  · exact SubsidesOn.refl _ s
  · exact setBookingState_subsides k b _ s
  · exact setBookingState_subsides k b _ s
  · exact endBooking_subsides k b s

theorem evalFirst_subsides (w : Why) (k : SlotId) (s : State) : Subsides s (evalFirst w k s) := by
  unfold evalFirst
  repeat' split
  · exact SubsidesOn.refl _ s
  · exact SubsidesOn.refl _ s
  · exact evalWaiting_subsides w k _ s
  · exact evalWaiting_subsides w k _ s
  · exact SubsidesOn.refl _ s
  · exact endBooking_subsides k _ s
  · exact evalSession_subsides w k _ s

theorem evalSecond_subsides (w : Why) (k : SlotId) (s : State) : Subsides s (evalSecond w k s) := by
  unfold evalSecond
  repeat' split
  · exact SubsidesOn.refl _ s
  · exact Subsides.trans (setBookingState_subsides k _ _ s) (floorStart_subsides _ k _ _)
  · exact SubsidesOn.refl _ s

theorem evalPasses_subsides (w : Why) (s : State) : Subsides s (evalPasses w s) :=
  (forEach_subsides (evalFirst_subsides w) _ s).trans (forEach_subsides (evalSecond_subsides w) _ _)

theorem evaluateCore_subsides (w : Why) (old : SlotTable) (s : State) : Subsides s (evaluateCore w old s) := by
  have once : Subsides s (handOver old (evalPasses w s)) :=
    (evalPasses_subsides w s).trans (handOver_screensOnly old _).subsides
  unfold evaluateCore
  dsimp only
  split
  · exact (once.trans (evalPasses_subsides .ordinary _)).trans (handOver_screensOnly _ _).subsides
  · exact once

theorem silence_subsides {may : SeatId → Prop} (s : State) : SubsidesOn may s (silence s) :=
  .of_same (by simp only [silence, modMix_floors, modSeats_floors]) fun i => by simp [silence]

theorem enterStandby_subsides (s : State) : Subsides s (enterStandby s) := by
  unfold enterStandby
  dsimp only
  refine Subsides.trans ?_ (evaluateCore_subsides _ _ _)
  refine SubsidesOn.trans ?_ (reconcileAll_subsides _)
  refine SubsidesOn.trans ?_ (forEach_screensOnly resetFollow_screensOnly _ _).subsides
  refine SubsidesOn.trans ?_ (silence_subsides _)
  exact .of_same rfl fun _ => rfl

/-- An evaluation admits no seat and withdraws or closes none but seats of a queue or an open set (R133 to R140, R159, R160). -/
theorem evaluate_subsides (w : Why) (s : State) : Subsides s (evaluate w s) := by
  unfold evaluate evaluateFrom standbyTest
  dsimp only
  repeat' split
  · exact (evaluateCore_subsides w _ s).trans (enterStandby_subsides _)
  · exact evaluateCore_subsides w _ s
  · exact evaluateCore_subsides w _ s

/-! # The end of an event at a floor -/

/-- What the end of an event's handling can do: auto-advance and the floor speaker, and then an evaluation when the open set of a
GRACE session has been emptied. -/
theorem settle_cases (before : State) (r : SectionId) (s : State) :
    ∃ m, Settles r s m ∧ Subsides m (settle before r s) ∧ (graceEmptied before r m = false → settle before r s = m) := by
  refine ⟨updateSpeaker r (autoAdvance r s), (autoAdvanceN_settles r _ s).trans (updateSpeaker_settles r _), ?_, fun h => ?_⟩
  · unfold settle
    dsimp only
    split
    · exact evaluate_subsides .ordinary _
    · exact SubsidesOn.refl _ _
  · simp only [settle, h, Bool.false_eq_true, if_false]

theorem graceEmptied_of_occupied {before s : State} {r : SectionId} (h : entriesOf s r ≠ []) :
    graceEmptied before r s = false := by
  have stays : (floorOf s r).openSet.isEmpty = false := by
    simpa [floorOf] using fun e => h (entriesOf_eq_nil_iff.mpr e)
  simp only [graceEmptied, stays, Bool.and_false, Bool.false_and]

theorem graceEmptied_of_was_empty {before s : State} {r : SectionId} (h : entriesOf before r = []) :
    graceEmptied before r s = false := by
  have was : (floorOf before r).openSet.isEmpty = true := by
    simpa [floorOf] using entriesOf_eq_nil_iff.mp h
  simp only [graceEmptied, was, Bool.not_true, Bool.false_and]

theorem graceEmptied_of_noGrace {before s : State} (r : SectionId) (h : noGrace s) : graceEmptied before r s = false := by
  have none_in_grace : ∀ k : SlotId, (s.cal.slots[k].any fun b => b.state == .grace) = false := fun k => by
    cases hb : s.cal.slots[k] with
    | none => rfl
    | some b => simpa using h k b (by rw [hb]; rfl)
  simp only [graceEmptied, none_in_grace, Option.any_false, Bool.and_false]

/-- An event after which the open set holds a seat ends with auto-advance and the floor speaker. -/
theorem settle_of_occupied {before s : State} {r : SectionId} (h : entriesOf s r ≠ []) : Settles r s (settle before r s) := by
  obtain ⟨m, hm, -, eq⟩ := settle_cases before r s
  rwa [eq (graceEmptied_of_occupied (hm.occupied h))]

/-! # Requests to the Floor Controller, their operand and checks taken -/

theorem finOf_octet {n : Nat} (hn : n ≤ 256) (x : Fin n) : finOf n (octet x.val).toNat = some x := by
  have hx : (octet x.val).toNat = x.val := Nat.mod_eq_of_lt (by omega)
  simp [finOf, hx]

section
variable {s u : State} {i : SeatId} {check : State → SeatId → Option Status}

/-- A seat request that passes its checks (R77). -/
theorem seatRequest_of_passed (hu : afterApply s = u) (hc : seatCheck u i = none) (hk : check u i = none) (tag : Octet)
    (f : SectionId → SeatId → State → State) :
    seatRequest tag (octet i.val) check f (markTaken s) =
      answer tag .ok [] (floorEvent (roomOfSeat u i) (f (roomOfSeat u i) i) u) := by
  have hu' : applyPoint (markTaken s) = u := hu
  simp only [seatRequest, hu', finOf_octet (by decide : 64 ≤ 256) i, hc, hk, Option.none_or]

/-- A seat request that the request's own check refuses (R77). -/
theorem seatRequest_of_refused {e : Status} (hu : afterApply s = u) (hc : seatCheck u i = none) (hk : check u i = some e)
    (tag : Octet) (f : SectionId → SeatId → State → State) :
    seatRequest tag (octet i.val) check f (markTaken s) = answer tag e [] u := by
  have hu' : applyPoint (markTaken s) = u := hu
  simp only [seatRequest, hu', finOf_octet (by decide : 64 ≤ 256) i, hc, hk, Option.none_or]

end

theorem exec_seatOpen (tag seat : Octet) (s : State) :
    exec (.seatOpen tag seat) s = .next (seatRequest tag seat openCheck openSeat (markTaken s)) := by
  rfl

theorem exec_seatClose (tag seat : Octet) (s : State) :
    exec (.seatClose tag seat) s = .next (seatRequest tag seat noCheck closeOrWithdraw (markTaken s)) := by
  rfl

theorem exec_seatDequeue (tag seat : Octet) (s : State) :
    exec (.seatDequeue tag seat) s = .next (seatRequest tag seat noCheck dequeueSeat (markTaken s)) := by
  rfl

theorem exec_floorClear (tag : Octet) (r : SectionId) (s : State) :
    exec (.floorClear tag (octet r.val)) s = .next (clearRoom tag r (afterApply s)) := by
  show Host.Outcome.next (withRoom tag (octet r.val) (markTaken s) (clearRoom tag)) = _
  simp only [withRoom, finOf_octet (by decide : 4 ≤ 256) r, afterApply]

/-- An event at a floor that changes nothing, when nothing is left over from the last one. -/
theorem floorEvent_of_no_change {r : SectionId} {f : State → State} {s : State} (hf : f s = s) (h : settled s r) :
    floorEvent r f s = s := by
  rw [floorEvent, hf, settle_of_settled h]

/-! # SEAT OPEN -/

theorem openCheck_of_full {u : State} {i : SeatId} (hr : u.cfg.seats[i].role ≠ .chair)
    (hm : u.seats[i].mic = .off ∨ u.seats[i].mic = .closing ∨ u.seats[i].mic = .waiting)
    (hc : maxOpenOf u (roomOfSeat u i) ≤ admittedCount u (roomOfSeat u i)) : openCheck u i = some .full :=
  if_pos ⟨hr, hm, hc⟩

/-- The seats that SEAT OPEN admits (R78). -/
def opensBySeatOpen (u : State) (i : SeatId) : Prop :=
  (u.cfg.seats[i].role = .chair ∧ (u.seats[i].mic = .off ∨ u.seats[i].mic = .closing ∨ u.seats[i].mic = .suspended)) ∨
    (u.cfg.seats[i].role ≠ .chair ∧ (u.seats[i].mic = .off ∨ u.seats[i].mic = .closing ∨ u.seats[i].mic = .waiting) ∧
      admittedCount u (roomOfSeat u i) < maxOpenOf u (roomOfSeat u i))

theorem openCheck_of_opens {u : State} {i : SeatId} (h : opensBySeatOpen u i) : openCheck u i = none := by
  refine if_neg fun ⟨nonChair, _, full⟩ => ?_
  rcases h with ⟨chair, -⟩ | ⟨-, -, room⟩
  · exact nonChair chair
  · exact absurd room (Nat.not_lt.mpr full)

theorem openSeat_of_opens {u : State} {i : SeatId} (h : opensBySeatOpen u i) (r : SectionId) :
    openSeat r i u = admitSeat r i false u := by
  unfold openSeat
  rcases h with ⟨chair, hm | hm | hm⟩ | ⟨-, hm | hm | hm, -⟩ <;> simp only [hm]
  exact if_pos chair

/-- A seat just admitted stands as the admission left it when the event has ended: auto-advance does not reach it (R50, R60). -/
theorem settle_admitSeat (before : State) (r : SectionId) (i : SeatId) (s : State) :
    Admitted (settle before r (admitSeat r i false s)) r i ∧ i ∉ (settle before r (admitSeat r i false s)).floors[r].queue := by
  have out := admitSeat_not_in_queue r i false s
  have entry := admitSeat_entry r i false s
  have h := settle_of_occupied (before := before) (List.ne_nil_of_mem entry)
  have seat := (h.seat i out).trans (admitSeat_seat_same r i false s)
  exact ⟨⟨congrArg Seat.mic seat, hasEntry_iff.mpr ((h.entries r i out false).mpr entry), congrArg Seat.speakSecs seat,
    congrArg Seat.silence seat, congrArg Seat.limitWarning seat⟩, fun c => out (h.queue r c)⟩

/-- Settles O35: an admission is the last word on the seat, and the other cases change nothing. -/
theorem seatOpenAdmits : Obligations.SeatOpenAdmits := by
  unfold Obligations.SeatOpenAdmits
  intro tag i s u hu hc
  refine ⟨fun h => ?_, fun hr hm full => ?_, fun hm hs => ?_⟩
  · obtain ⟨admitted, out⟩ := settle_admitSeat u (roomOfSeat u i) i u
    rw [exec_seatOpen, seatRequest_of_passed hu hc (openCheck_of_opens h), floorEvent, openSeat_of_opens h]
    exact ⟨_, rfl, admitted.mic, rfl, admitted.entry, out, admitted.speakSecs, admitted.silence, admitted.limitWarning⟩
  · rw [exec_seatOpen, seatRequest_of_refused hu hc (openCheck_of_full hr hm full)]
    rfl
  · have passes : openCheck u i = none := by
      refine if_neg fun ⟨_, shut, _⟩ => ?_
      rcases hm with hm | hm <;> rw [hm] at shut <;> simp at shut
    have same : openSeat (roomOfSeat u i) i u = u := by
      unfold openSeat
      rcases hm with hm | hm <;> simp only [hm]
    rw [exec_seatOpen, seatRequest_of_passed hu hc passes, floorEvent_of_no_change same hs]
    rfl

/-! # SEAT CLOSE and SEAT DEQUEUE -/

/-- A seat just withdrawn is OFF and out of the queue when the event has ended. -/
theorem settle_withdraw (r : SectionId) (i : SeatId) (s : State) :
    (settle s r (withdraw r i s)).seats[i].mic = .off ∧ i ∉ (settle s r (withdraw r i s)).floors[r].queue := by
  have out : i ∉ (withdraw r i s).floors[r].queue := by
    rw [withdraw_floor_same]
    simp
  have h : Settles r (withdraw r i s) (settle s r (withdraw r i s)) := by
    obtain ⟨m, hm, -, eq⟩ := settle_cases s r (withdraw r i s)
    by_cases he : entriesOf s r = []
    · rwa [eq (graceEmptied_of_was_empty he)]
    · refine settle_of_occupied ?_
      rwa [entriesOf, withdraw_floor_same]
  refine ⟨?_, fun c => out (h.queue r c)⟩
  rw [h.seat i out, withdraw_seat_same]

/-- A seat that has been closed stands in no queue and in no open set (R48, R49, R51). -/
theorem closeSeat_not_listed {i : SeatId} {s : State} (o : isOpenMic s.seats[i].mic = true) (hf : FloorOk s) :
    ¬ listed (closeSeat (roomOfSeat s i) i s) i := by
  have shrinks := (closeSeat_subsides (roomOfSeat s i) i s).floor
  rintro ⟨q, hq | ho⟩
  · obtain ⟨waiting, -⟩ := (hf.waiting q i).mp ((shrinks q).queue hq)
    rw [waiting] at o
    cases o
  · obtain ⟨-, room⟩ := (hf.opened q i).mp (List.map_subset _ (shrinks q).openSet ho)
    subst room
    rw [openSeats, floorOf, closeSeat_floor_same o] at ho
    obtain ⟨e, he, hi⟩ := List.mem_map.mp ho
    exact bne_iff_ne.mp (List.mem_filter.mp he).2 hi

theorem Settles.was_listed {r : SectionId} {s t : State} {i : SeatId} (h : Settles r s t) (hi : i ∉ s.floors[r].queue)
    (l : listed t i) : listed s i := by
  obtain ⟨q, hq | ho⟩ := l
  · exact ⟨q, .inl (h.queue q hq)⟩
  · obtain ⟨m, hm⟩ := mem_openSeats_iff.mp ho
    exact ⟨q, .inr (mem_openSeats_iff.mpr ⟨m, (h.entries q i hi m).mp hm⟩)⟩

/-- A seat just closed stays closed to the end of the event, an evaluation at the end of a GRACE session included. -/
theorem settle_closeSeat {i : SeatId} {s : State} {r : SectionId} (hr : roomOfSeat s i = r)
    (o : isOpenMic s.seats[i].mic = true) (hf : FloorOk s) :
    (settle s r (closeSeat r i s)).seats[i].mic = closedMic s.seats[i] ∧ i ∉ openSeats (settle s r (closeSeat r i s)) r := by
  subst hr
  obtain ⟨m, hm, sub, -⟩ := settle_cases s (roomOfSeat s i) (closeSeat (roomOfSeat s i) i s)
  have out := closeSeat_not_listed o hf
  have hq : i ∉ (closeSeat (roomOfSeat s i) i s).floors[roomOfSeat s i].queue := fun c => out ⟨_, .inl c⟩
  have out' : ¬ listed m i := fun c => out (hm.was_listed hq c)
  refine ⟨?_, fun c => out' (sub.was_listed ⟨_, .inr c⟩)⟩
  rw [sub.mic_of_not out', hm.seat i hq, closeSeat_mic_same o]

/-- A close that ends no GRACE session leaves the holders. -/
theorem settle_closeSeat_holders {i : SeatId} {s : State} {r : SectionId} (o : isOpenMic s.seats[i].mic = true)
    (h : outlives s r i) : (settle s r (closeSeat r i s)).floors[r].holders = s.floors[r].holders := by
  obtain ⟨m, hm, -, eq⟩ := settle_cases s r (closeSeat r i s)
  have quiet : graceEmptied s r m = false := by
    rcases h with none_in_grace | ⟨e, he, ne⟩
    · exact graceEmptied_of_noGrace r (by rwa [noGrace, hm.cal, closeSeat_cal])
    · refine graceEmptied_of_occupied (hm.occupied ?_)
      refine List.ne_nil_of_mem (a := seatAndMark e) ?_
      rw [entriesOf, closeSeat_floor_same o]
      exact List.mem_map_of_mem (by simpa using ⟨he, ne⟩)
  rw [eq quiet, hm.holders, closeSeat_floor_same o]

/-- Settles O36: a seat closed or withdrawn has left queue and open set, so nothing at the end of the event moves it again. -/
theorem seatCloseAndDequeue : Obligations.SeatCloseAndDequeue := by
  unfold Obligations.SeatCloseAndDequeue
  intro tag i s u hu hc
  have close := seatRequest_of_passed hu hc (check := noCheck) rfl tag closeOrWithdraw
  have dequeue := seatRequest_of_passed hu hc (check := noCheck) rfl tag dequeueSeat
  refine ⟨fun o hf => ?_, fun hw c hcmd => ?_, fun hm hs => ?_, fun hw hs => ?_⟩
  · have not_waiting : u.seats[i].mic ≠ .waiting := fun e => by rw [e] at o; cases o
    rw [exec_seatClose, close, floorEvent, closeOrWithdraw, if_neg not_waiting]
    obtain ⟨mic, out⟩ := settle_closeSeat rfl o hf
    exact ⟨_, rfl, mic, out, rfl, settle_closeSeat_holders o⟩
  · obtain ⟨mic, out⟩ := settle_withdraw (roomOfSeat u i) i u
    have both : exec c s = .next (answer tag .ok [] (settle u (roomOfSeat u i) (withdraw (roomOfSeat u i) i u))) := by
      rcases hcmd with rfl | rfl
      · rw [exec_seatClose, close, floorEvent, closeOrWithdraw, if_pos hw]
      · rw [exec_seatDequeue, dequeue, floorEvent, dequeueSeat, if_pos hw]
    exact ⟨_, both, mic, out, rfl⟩
  · have same : closeOrWithdraw (roomOfSeat u i) i u = u := by
      unfold closeOrWithdraw
      rw [if_neg (by rcases hm with hm | hm <;> simp [-Fin.getElem_fin, hm]),
        closeSeat_of_not_open (by rcases hm with hm | hm <;> rw [hm] <;> rfl)]
    rw [exec_seatClose, close, floorEvent_of_no_change same hs]
    rfl
  · have same : dequeueSeat (roomOfSeat u i) i u = u := if_neg hw
    rw [exec_seatDequeue, dequeue, floorEvent_of_no_change same hs]
    rfl

/-! # FLOOR CLEAR -/

/-- Every entry of a room's open set is of an open seat. -/
def entriesOpen (s : State) (r : SectionId) : Prop := ∀ e ∈ s.floors[r].openSet, isOpenMic s.seats[e.seat].mic = true

theorem closeSeat_floor_of_entriesOpen {s : State} {r : SectionId} (h : entriesOpen s r) (i : SeatId) :
    (closeSeat r i s).floors[r] = { s.floors[r] with openSet := s.floors[r].openSet.filter (·.seat != i) } := by
  cases o : isOpenMic s.seats[i].mic
  · have none_of_seat : s.floors[r].openSet.filter (·.seat != i) = s.floors[r].openSet := by
      refine List.filter_eq_self.mpr fun e he => bne_iff_ne.mpr fun hi => ?_
      rw [← hi, h e he] at o
      cases o
    rw [closeSeat_of_not_open o, none_of_seat]
  · exact closeSeat_floor_same o r

theorem closeSeat_entriesOpen {s : State} {r : SectionId} (h : entriesOpen s r) (i : SeatId) : entriesOpen (closeSeat r i s) r := by
  intro e he
  rw [closeSeat_floor_of_entriesOpen h] at he
  obtain ⟨he, ne⟩ := List.mem_filter.mp he
  rw [closeSeat_seat_ne (bne_iff_ne.mp ne)]
  exact h e he

theorem closeSeats_floor {s : State} {r : SectionId} (h : entriesOpen s r) (is : List SeatId) :
    (forEach is (closeSeat r) s).floors[r] = { s.floors[r] with openSet := s.floors[r].openSet.filter (·.seat ∉ is) } := by
  induction is generalizing s with
  | nil => simp [forEach]
  | cons i is ih =>
    show (forEach is (closeSeat r) (closeSeat r i s)).floors[r] = _
    rw [ih (closeSeat_entriesOpen h i), closeSeat_floor_of_entriesOpen h, List.filter_filter]
    simp [not_or, bne, Bool.and_comm, beq_eq_decide]

theorem closeAll_floor {s : State} {r : SectionId} (h : entriesOpen s r) :
    (closeAll r s).floors[r] = { s.floors[r] with openSet := [] } := by
  have none_left : s.floors[r].openSet.filter (·.seat ∉ openSeats s r) = [] :=
    List.filter_eq_nil_iff.mpr fun e he => by
      have mem : e.seat ∈ openSeats s r := List.mem_map_of_mem he
      simpa using mem
  rw [closeAll, closeSeats_floor h, none_left]

theorem closeSeats_not_open (r : SectionId) {is : List SeatId} {i : SeatId} (hi : i ∈ is) (s : State) :
    isOpenMic (forEach is (closeSeat r) s).seats[i].mic = false := by
  induction is generalizing s with
  | nil => cases hi
  | cons j is ih =>
    rcases List.mem_cons.mp hi with rfl | hi
    · exact (closeSeats_subsides r is _).not_open (closeSeat_not_open r i s)
    · exact ih hi _

theorem withdrawals_floor (r : SectionId) (is : List SeatId) (s : State) :
    (forEach is (withdraw r) s).floors[r] = { s.floors[r] with queue := s.floors[r].queue.filter (· ∉ is) } := by
  induction is generalizing s with
  | nil => simp [forEach]
  | cons i is ih =>
    show (forEach is (withdraw r) (withdraw r i s)).floors[r] = _
    rw [ih, withdraw_floor_same, List.filter_filter]
    simp [not_or, bne, Bool.and_comm, beq_eq_decide]

theorem emptyQueue_floor (r : SectionId) (s : State) : (emptyQueue r s).floors[r] = { s.floors[r] with queue := [] } := by
  have none_left : s.floors[r].queue.filter (· ∉ s.floors[r].queue) = [] :=
    List.filter_eq_nil_iff.mpr fun i hi => by simpa using hi
  rw [emptyQueue, withdrawals_floor, floorOf, none_left]

theorem withdrawals_off (r : SectionId) {is : List SeatId} {i : SeatId} (hi : i ∈ is) (s : State) :
    (forEach is (withdraw r) s).seats[i].mic = .off := by
  induction is generalizing s with
  | nil => cases hi
  | cons j is ih =>
    rcases List.mem_cons.mp hi with rfl | hi
    · exact (withdrawals_subsides r is _).off (by rw [withdraw_seat_same])
    · exact ih hi _

/-- A floor whose open set holds only open seats is empty after a clear (R81). -/
theorem clearFloor_floor {s : State} {r : SectionId} (h : entriesOpen s r) :
    (clearFloor r s).floors[r] = { s.floors[r] with queue := [], openSet := [], holders := [] } := by
  rw [clearFloor, modFloor_floor_same, emptyQueue_floor, closeAll_floor h]

theorem clearFloor_not_open {s : State} {r : SectionId} {i : SeatId} (hi : i ∈ openSeats s r) :
    isOpenMic (clearFloor r s).seats[i].mic = false :=
  (withdrawals_subsides r _ _).not_open (closeSeats_not_open r hi s)

theorem clearFloor_off {s : State} {r : SectionId} {i : SeatId} (h : entriesOpen s r) (hi : i ∈ s.floors[r].queue) :
    (clearFloor r s).seats[i].mic = .off := by
  refine withdrawals_off r ?_ _
  rw [floorOf, closeAll_floor h]
  exact hi

theorem forEach_cal {α : Type} {f : α → State → State} (hf : ∀ x s, (f x s).cal = s.cal) (xs : List α) (s : State) :
    (forEach xs f s).cal = s.cal := by
  induction xs generalizing s with
  | nil => rfl
  | cons x xs ih => exact (ih (f x s)).trans (hf x s)

@[simp] theorem clearFloor_cal (r : SectionId) (s : State) : (clearFloor r s).cal = s.cal :=
  (forEach_cal (withdraw_cal r) _ _).trans (forEach_cal (closeSeat_cal r) _ s)

/-- A floor in session without holders and with an empty open set returns to NORMAL, with no seat to resume (R67). -/
theorem resumeIfFree_of_empty {s : State} {r : SectionId} (hs : inSession s.floors[r]) (ho : s.floors[r].openSet = [])
    (hh : s.floors[r].holders = []) : resumeIfFree r s = modFloor r (fun f => { f with state := .normal }) s := by
  unfold resumeIfFree floorOf
  rcases hs with normal | priority
  · have stays : ¬ (s.floors[r].state = .priority ∧ s.floors[r].holders = []) := fun c => by
      rw [normal] at c
      cases c.1
    rw [if_neg stays, modFloor_eq_self (by rw [← normal])]
  · have seats : openSeats (modFloor r (fun f => { f with state := .normal }) s) r = [] := by
      rw [openSeats, floorOf, modFloor_floor_same, ho, List.map_nil]
    rw [if_pos ⟨priority, hh⟩, resumeFloor]
    simp only [seats]
    rfl

/-- A clear leaves a floor in session with nothing that holds it in PRIORITY (R81). -/
theorem resumeIfFree_clearFloor {s : State} {r : SectionId} (hs : inSession s.floors[r]) (h : entriesOpen s r) :
    resumeIfFree r (clearFloor r s) = modFloor r (fun f => { f with state := .normal }) (clearFloor r s) := by
  have floor := clearFloor_floor h
  exact resumeIfFree_of_empty (by rw [floor]; exact hs) (by rw [floor]) (by rw [floor])

/-- What FLOOR CLEAR does to a floor before the end of the event. -/
def cleared (r : SectionId) (s : State) : State := resumeIfFree r (clearFloor r s)

section
variable {s : State} {r : SectionId}

theorem cleared_floor (hs : inSession s.floors[r]) (h : entriesOpen s r) :
    (cleared r s).floors[r] = { s.floors[r] with state := .normal, queue := [], openSet := [], holders := [] } := by
  rw [cleared, resumeIfFree_clearFloor hs h, modFloor_floor_same, clearFloor_floor h]

theorem cleared_seats (hs : inSession s.floors[r]) (h : entriesOpen s r) : (cleared r s).seats = (clearFloor r s).seats := by
  rw [cleared, resumeIfFree_clearFloor hs h, modFloor_seats]

theorem cleared_cal (hs : inSession s.floors[r]) (h : entriesOpen s r) : (cleared r s).cal = s.cal := by
  rw [cleared, resumeIfFree_clearFloor hs h, modFloor_cal, clearFloor_cal]

/-- A floor without a seat, and not in PRIORITY. -/
structure FloorEmpty (f : Floor) : Prop where
  queue : f.queue = []
  openSet : f.openSet = []
  holders : f.holders = []
  state : f.state ≠ .priority

theorem FloorSubsides.empty {f g : Floor} (h : FloorSubsides f g) (e : FloorEmpty f) : FloorEmpty g where
  queue := List.eq_nil_of_subset_nil (e.queue ▸ h.queue)
  openSet := List.eq_nil_of_subset_nil (e.openSet ▸ h.openSet)
  holders := List.eq_nil_of_subset_nil (e.holders ▸ h.holders)
  state := e.state ∘ h.priority

/-- The end of the event at a cleared floor: the floor stays empty, its seats shut or OFF, and without GRACE it is NORMAL. -/
theorem settle_cleared (hs : inSession s.floors[r]) (h : entriesOpen s r) :
    FloorEmpty (settle s r (cleared r s)).floors[r] ∧
      (noGrace s → (settle s r (cleared r s)).floors[r].state = .normal) ∧
      (∀ e ∈ s.floors[r].openSet, isOpenMic (settle s r (cleared r s)).seats[e.seat].mic = false) ∧
      ∀ i ∈ s.floors[r].queue, (settle s r (cleared r s)).seats[i].mic = .off := by
  obtain ⟨m, hm, sub, eq⟩ := settle_cases s r (cleared r s)
  have floor := cleared_floor hs h
  have noQueue : (cleared r s).floors[r].queue = [] := by rw [floor]
  have noEntries : entriesOf (cleared r s) r = [] := by rw [entriesOf, floor]; rfl
  have normal : m.floors[r].state = .normal := by rw [hm.state, floor]
  have empty : FloorEmpty m.floors[r] := {
    queue := List.eq_nil_of_subset_nil (noQueue ▸ hm.queue r)
    openSet := entriesOf_eq_nil_iff.mp (hm.entries_nil noQueue noEntries)
    holders := by rw [hm.holders, floor]
    state := by rw [normal]; decide }
  have seat : ∀ i : SeatId, m.seats[i] = (clearFloor r s).seats[i] := fun i => by
    rw [hm.seat i (noQueue ▸ List.not_mem_nil), cleared_seats hs h]
  refine ⟨(sub.floor r).empty empty, fun none_in_grace => ?_, fun e he => ?_, fun i hi => ?_⟩
  · have still : noGrace m := by rwa [noGrace, hm.cal, cleared_cal hs h]
    rw [eq (graceEmptied_of_noGrace r still), normal]
  · exact sub.not_open (by rw [seat, clearFloor_not_open (List.mem_map_of_mem he)])
  · exact sub.off (by rw [seat, clearFloor_off h hi])

end

theorem clearCheck_of_inSession {u : State} {r : SectionId} (ha : u.standby.room = .active) (hs : inSession u.floors[r]) :
    clearCheck u r = none := by
  unfold clearCheck
  rw [if_neg (not_not.mpr ha)]
  rcases hs with hs | hs <;> simp only [hs]

/-- Settles O38: the clear empties the floor, and the end of the event, an evaluation included, fills it with nothing. -/
theorem floorClear : Obligations.FloorClear := by
  unfold Obligations.FloorClear
  intro tag r s u hu
  refine ⟨fun ha hs h => ?_, fun hn => ?_, fun ha hz => ?_, fun ha hz => ?_⟩
  · obtain ⟨empty, quiet, shut, off⟩ := settle_cleared hs h
    rw [exec_floorClear, hu, clearRoom, clearCheck_of_inSession ha hs]
    exact ⟨_, rfl, empty.queue, empty.openSet, empty.holders, empty.state, quiet, shut, off, rfl⟩
  · rw [exec_floorClear, hu, clearRoom, clearCheck, if_pos hn]
    rfl
  · rw [exec_floorClear, hu, clearRoom, clearCheck, if_neg (not_not.mpr ha)]
    simp only [hz]
    rfl
  · rw [exec_floorClear, hu, clearRoom, clearCheck, if_neg (not_not.mpr ha)]
    simp only [hz]
    rfl

end Sys2Proof.Machine
end

section
/-! Proofs of the family of the mix engine: CLEAR CLIPS (O18). -/

namespace Sys2Proof.Machine

open Sys2Proof

/-- An answer writes the reply register and nothing else. -/
theorem answer_eq_reply (tag : Octet) (status : Status) (data : List Octet) (s : State) :
    answer tag status data s = { s with mgmt := { s.mgmt with reply := replyOf tag status data } } := rfl

/-- CLEAR CLIPS is an apply point, then the counters, then the answer (R104). -/
theorem exec_clearClips (tag : Octet) (s : State) :
    exec (.clearClips tag) s =
      .next (answer tag .ok [] (modMix (fun m => { m with clips := Vector.replicate 12 0 }) (afterApply s))) := rfl

/-- Settles O18: after the apply point only the counters and the reply register are written. -/
theorem clearClips : Obligations.ClearClips := by
  unfold Obligations.ClearClips
  intro tag s u applied
  rw [exec_clearClips, applied, answer_eq_reply, modMix]

end Sys2Proof.Machine
end
